-- ==== Sys2Proof/Word.lean ====
section
/-!
DEFINITION. The word types of modular_multiplier: the 32-bit bus and register word, and the byte of a byte lane.
-/

namespace Sys2Proof

/-- A 32-bit bus data word, the only transfer the port accepts (R63), and a word of a W-bit register (R9). -/
abbrev Word := BitVec 32

/-- A byte lane of a bus word (R61). -/
abbrev Byte := BitVec 8

end Sys2Proof
end

