-- ==== Sys2Proof/Config.lean ====
section
/-!
DEFINITION. What an implementation fixes (the parameters of R5 to R7) and the free values (`UNSPEC` of R11).

The parameters are plain data that State carries unchanged, so that every statement about a state is a statement about
every W, BASE and RED. Free values are opaque: nothing in Lean can evaluate one (log 4).
-/

namespace Sys2Proof

/-- The reduction method inside the multiplier (R7). HWCFG.RED never reports another (R24, I12). -/
inductive Reduction where
  | montgomery
  | barrett
  deriving DecidableEq, Repr

/-- The implementation parameters (R5, R6, R7). -/
structure Params where
  /-- `NW = W / 32`, the number of words of an operand or result register (R5). -/
  nw : Nat
  /-- `RED` (R7). -/
  red : Reduction
  /-- `BASE`, the byte address of the aperture (R6). -/
  base : Nat
  deriving DecidableEq, Repr

/-- `W`, the operand width in bits (R5). -/
def Params.width (p : Params) : Nat := 32 * p.nw

/-- The reference configuration: W = 2048 (R5). BASE and RED are open in the spec; 0 and MONTGOMERY stand here for
State.reset only. DESIGN CHOICE, log 1: no statement rests on them. -/
def Params.reference : Params := { nw := 64, red := .montgomery, base := 0 }

/-- The k-th drawn word: an `UNSPEC` 32-bit value, any value, under no law (R11). It has no body on purpose (log 4). -/
opaque Config.freeWord : Nat → BitVec 32

/-- The k-th drawn bit: an `UNSPEC` bit or an unpredictable outcome (R11, R46). It has no body on purpose (log 4). -/
opaque Config.freeBit : Nat → Bool

end Sys2Proof
end

