-- ==== Sys2Proof/Syntax.lean ====
section
/-!
DEFINITION. The commands of the block: one constructor for each row of spec/opcode_table.json.
-/

namespace Sys2Proof

/-- A decoded command (R44, R50, R81). No command carries a register number, an immediate, an address or a length
(R80); EXTGCD alone carries two sign bits (R87). -/
inductive Instr where
  /-- MODMUL, `R <- (A * B) mod N` (R130). -/
  | modmul
  /-- MODEXP, `R <- A^E mod N` with early exit (R140). -/
  | modexp
  /-- EXTGCD, Bézout coefficients of the signed operands; `na`, `nb` are the bits NA and NB (R87, R153). -/
  | extgcd (na nb : Bool)
  /-- MODINV, modular inverse of A modulo N (R160). -/
  | modinv
  deriving DecidableEq, Repr

end Sys2Proof
end

