-- ==== Sys2Proof/WellFormed.lean ====
section
/-!
DEFINITION. The checks: which command words are legal (R89), which parameters are (R5, R6), which commands are well formed.
-/

namespace Sys2Proof

/-- Every term of `Instr` is a legal command: its only fields are the two sign bits, and each of their values is legal
(R86, R89). The check that can fail is `legalCommand`, on the word. -/
def Instr.WellFormed : Instr → Bool
  | .modmul => true
  | .modexp => true
  | .extgcd _ _ => true
  | .modinv => true

/-- R89, bullet by bullet: OP is not 0x00, OP is below 0x05, the reserved bits [31:10] are 0, and the sign bits [9:8] are
0 unless OP is 0x03. Written apart from the decoder, so that the two can be compared. -/
def legalCommand (c : Word) : Bool :=
  (c.extractLsb' 0 8 != 0#8) && (c.extractLsb' 0 8).ult 5#8 && (c.extractLsb' 10 22 == 0#22) &&
    (c.extractLsb' 0 8 == 3#8 || c.extractLsb' 8 2 == 0#2)

/-- The legal parameters: W a multiple of 32 with 32 <= W <= 8192 (R5), that is 1 <= NW <= 256 (R24), and BASE a multiple
of 0x4000 (R6). -/
def Params.Legal (p : Params) : Bool :=
  decide (1 ≤ p.nw) && decide (p.nw ≤ 256) && decide (p.base % 0x4000 = 0)

end Sys2Proof
end

