-- ==== Sys2Proof/Decode.lean ====
section
/-!
DEFINITION. Decoding and encoding of the command word CMD32 (R80 to R93).
-/

namespace Sys2Proof

/-- Why a word or a byte string is no command. Each word of R89's illegal space has exactly one of the first three
reasons; raising ILLEGAL_COMMAND for it is the machine's business (R172). -/
inductive IllegalWord where
  /-- A bit of RSV, [31:10], is set (R83). -/
  | reservedBits
  /-- OP is 0x00 or 0x05 to 0xFF (R81). -/
  | noSuchOp
  /-- NA or NB is set with an OP other than 0x03 (R82). -/
  | signBits
  /-- Fewer than the four bytes of a command word (R93). -/
  | truncated
  deriving DecidableEq, Repr

/-- OP, bits [7:0] (R80). -/
def opField (c : Word) : BitVec 8 := c.extractLsb' 0 8

/-- NB and NA, bits [9:8] (R80). -/
def signField (c : Word) : BitVec 2 := c.extractLsb' 8 2

/-- NA, bit 8 (R80). -/
def naField (c : Word) : Bool := c.getLsbD 8

/-- NB, bit 9 (R80). -/
def nbField (c : Word) : Bool := c.getLsbD 9

/-- RSV, bits [31:10] (R80). -/
def rsvField (c : Word) : BitVec 22 := c.extractLsb' 10 22

/-- The command of an OP that takes no sign bits, refused when one is set (R82). -/
def decodeUnsigned (c : Word) (i : Instr) : Except IllegalWord Instr :=
  if signField c = 0#2 then .ok i else .error .signBits

/-- R92's total decoder, with the reason of each rejection. -/
def decodeNamed (c : Word) : Except IllegalWord Instr :=
  if rsvField c ≠ 0#22 then .error .reservedBits
  else if opField c = 0x01#8 then decodeUnsigned c .modmul
  else if opField c = 0x02#8 then decodeUnsigned c .modexp
  else if opField c = 0x03#8 then .ok (.extgcd (naField c) (nbField c))
  else if opField c = 0x04#8 then decodeUnsigned c .modinv
  else .error .noSuchOp

/-- `decode` of R92: `none` means illegal. -/
def decode (c : Word) : Option Instr :=
  match decodeNamed c with
  | .ok i => some i
  | .error _ => none

/-- The bit at which a sign flag stands in the command word, if it is set (R86). -/
def signBitWord (flag : Bool) (w : Word) : Word := if flag then w else 0#32

/-- The one word of each command (R84, R85, R86, R88). -/
def encode : Instr → Word
  | .modmul => 0x00000001#32
  | .modexp => 0x00000002#32
  | .extgcd na nb => 0x00000003#32 ||| signBitWord na 0x00000100#32 ||| signBitWord nb 0x00000200#32
  | .modinv => 0x00000004#32

/-- The four bytes of a word on the byte lanes, lane 0 first (R61: lane j carries bits [8j+7:8j]). -/
def bytesOfWord (c : Word) : List Byte :=
  [c.extractLsb' 0 8, c.extractLsb' 8 8, c.extractLsb' 16 8, c.extractLsb' 24 8]

/-- The word that four byte lanes carry (R61). -/
def wordOfLanes (b0 b1 b2 b3 : Byte) : Word := b3 ++ b2 ++ b1 ++ b0

/-- Decoding of a byte string: one command is exactly one 32-bit word (R93), little-endian (R61); the rest is returned. -/
def decodeBytes : List Byte → Except IllegalWord (Instr × List Byte)
  | b0 :: b1 :: b2 :: b3 :: rest =>
    match decodeNamed (wordOfLanes b0 b1 b2 b3) with
    | .ok i => .ok (i, rest)
    | .error r => .error r
  | _ => .error .truncated

/-- The command the decoder reads from the bits `w` of a table row of `nbits` bits: bits above `nbits` are 0, and a row
longer than the one word of a command is none (R93, log 17). -/
def decodeTableWord (nbits w : Nat) : Option Instr :=
  if nbits ≤ 32 then
    match decodeBytes (bytesOfWord (BitVec.ofNat 32 (w % 2 ^ nbits))) with
    | .ok (i, _) => some i
    | .error _ => none
  else none

end Sys2Proof
end

