-- ==== Sys2Proof/Machine/State.lean ====
section
/-!
DEFINITION. The state of the block (R20, R50) as plain data, the steps of its agents (R100), the port's responses, the
reasons to stop, and the state after hard reset (R49).
-/

namespace Sys2Proof.Machine

/-- A 32-bit word of a W-bit register and its definedness mark (R46). `defined = false` is `UNDEF`: no read returns
`bits` and no command computes from it then (log 2). -/
structure DataWord where
  bits : Word
  defined : Bool
  deriving DecidableEq, Repr

/-- A bit of RFLAGS and its definedness mark (R36 to R38, R46). -/
structure FlagBit where
  bit : Bool
  defined : Bool
  deriving DecidableEq, Repr

/-- A W-bit register: its NW words, word 0 (bits [31:0]) first (R9, R40). -/
abbrev WideReg := List DataWord

/-- The eight W-bit registers (R20): operands A, B, E, N (R41) and results R, G, X, Y (R42). -/
inductive Reg where
  | a | b | e | n | r | g | x | y
  deriving DecidableEq, Repr

/-- STATUS.ERRCODE's values (R170). Codes 4 to 15 are never reported (I11). -/
inductive ErrorCode where
  /-- 0, NONE. -/
  | noError
  /-- 1, ILLEGAL_COMMAND (R172). -/
  | illegalCommand
  /-- 2, INVALID_MODULUS (R173). -/
  | invalidModulus
  /-- 3, NO_MODULAR_INVERSE (R174). -/
  | noModularInverse
  deriving DecidableEq, Repr

/-- What an aligned offset of the aperture reaches (R21). -/
inductive Target where
  | id | hwcfg | ctrl | status | cmd | rflags
  /-- Slot `k` of a register's window (R40). -/
  | slot (reg : Reg) (k : Nat)
  /-- A reserved offset (R65). -/
  | reserved
  deriving DecidableEq, Repr

/-- One step of an agent (R100). `addr` is a bus byte address, `size` the access size in bytes. -/
inductive Event where
  /-- A bus master's read (R101). -/
  | read (addr size : Nat)
  /-- A bus master's write (R102 to R106, R26, R27, R34). -/
  | write (addr size : Nat) (data : Word)
  /-- The engine's completion, where the schedule places one (R109, R110). -/
  | complete
  /-- The platform's reset input, between two transactions (R200, I14). -/
  | hardReset
  deriving DecidableEq, Repr

/-- The port's answer to a transaction (R63 to R65). -/
inductive Response where
  /-- OKAY to a write. -/
  | okay
  /-- OKAY to a read, with its data. -/
  | data (value : Word)
  /-- The bus error SLVERR, with no data (R64, I1). -/
  | slverr
  deriving DecidableEq, Repr

/-- What the machine does at an issue whose operand set holds an UNDEF word, the two sentences of R46 (log 5). -/
inductive UndefReading where
  /-- The model faults at such an issue (R46, R104, I3). -/
  | modelFaults
  /-- The hardware goes on, with UNSPEC results and possibly an unpredictable INVALID_MODULUS outcome (R46). -/
  | hardwareGoesOn
  deriving DecidableEq, Repr

/-- The faults: the reasons the machine stops. -/
inductive Fault where
  /-- UndefOperand: raised by the issue of a legal command (`Command.lean`) whose operand set holds an UNDEF word, where
  the spec has a model fault (R46, R104, R107, R181, D25, I3). Safe: the model says nothing of what follows (log 5). -/
  | undefOperand
  /-- Raised by the port (`Port.lean`) for a transaction whose address lies outside `[BASE, BASE + 0x4000)`: the block does
  not decode it, it belongs to the platform (R60). Safe: the model says nothing of such a transaction (log 11). -/
  | outsideAperture
  deriving DecidableEq, Repr

/-- Reasons the model gives no meaning. -/
inductive Refusal where
  /-- Raised by an arm of exec for a command without a meaning. No arm raises it. Safe. -/
  | notModelled (mnemonic : String)
  /-- Raised at a completion whose result does not fit its W-bit register: the spec describes no truncation and has a model
  refuse it (I10, R152). No state with legal register lengths reaches it. Safe (log 9). -/
  | resultDoesNotFit
  deriving DecidableEq, Repr

/-- The state. The fields up to `pend` are R50's, `hw` holds the parameters (R5 to R7), and the last five are the model's
own (INVENTORY.md, State). -/
structure State where
  /-- W, RED and BASE: constants of the implementation, the same after every step (R5 to R7, log 1). -/
  hw : Params
  /-- CTRL.IE (R25). -/
  ie : Bool
  /-- STATUS.DONE (R29). -/
  done : Bool
  /-- STATUS.ERRCODE (R31). -/
  errcode : ErrorCode
  /-- STATUS.OVR (R32). -/
  ovr : Bool
  /-- STATUS.WBUSY (R33). -/
  wbusy : Bool
  /-- CMDREG, the read-back of CMD (R35). -/
  cmdreg : Word
  /-- RFLAGS.XNEG (R36). -/
  xneg : FlagBit
  /-- RFLAGS.YNEG (R37). -/
  yneg : FlagBit
  /-- RFLAGS.EARLY (R38). -/
  early : FlagBit
  /-- Operand register A (R41). -/
  a : WideReg
  /-- Operand register B (R41). -/
  b : WideReg
  /-- Operand register E (R41). -/
  e : WideReg
  /-- Operand register N (R41). -/
  n : WideReg
  /-- Result register R (R42). -/
  r : WideReg
  /-- Result register G (R42). -/
  g : WideReg
  /-- Result register X (R42). -/
  x : WideReg
  /-- Result register Y (R42). -/
  y : WideReg
  /-- PEND, the command in flight (R44). STATUS.BUSY is `pend.isSome` (R28). -/
  pend : Option Instr
  /-- The model's own: the agents' steps still to come, in the port's total order (R69, log 6). -/
  schedule : List Event
  /-- The model's own: the port's answer to the last transaction (log 10). -/
  resp : Option Response
  /-- The model's own: how many free values have been drawn (log 4). -/
  draws : Nat
  /-- The model's own: which sentence of R46 the machine follows; the same after every step (log 5). -/
  onUndef : UndefReading
  /-- The model's own: an issue has met an UNDEF operand word and gone on (log 5). -/
  undefOperand : Bool
  deriving DecidableEq, Repr

/-- An UNDEF word (R46). The bits behind the mark: DESIGN CHOICE 0 (log 2). -/
def DataWord.undef : DataWord := { bits := 0#32, defined := false }

/-- An UNDEF bit (R46). The bit behind the mark: DESIGN CHOICE 0 (log 2). -/
def FlagBit.undef : FlagBit := { bit := false, defined := false }

/-- A register whose NW words are all UNDEF (R49). -/
def undefReg (nw : Nat) : WideReg := List.replicate nw DataWord.undef

/-- The machine right after hard reset (R49, R200) on hardware with the parameters `p`, before any transaction. It faults
at an issue on an UNDEF operand word, as R46 has a model do. -/
def State.resetOf (p : Params) : State where
  hw := p
  ie := false
  done := false
  errcode := .noError
  ovr := false
  wbusy := false
  cmdreg := 0x00000000#32
  xneg := FlagBit.undef
  yneg := FlagBit.undef
  early := FlagBit.undef
  a := undefReg p.nw
  b := undefReg p.nw
  e := undefReg p.nw
  n := undefReg p.nw
  r := undefReg p.nw
  g := undefReg p.nw
  x := undefReg p.nw
  y := undefReg p.nw
  pend := none
  schedule := []
  resp := none
  draws := 0
  onUndef := .modelFaults
  undefOperand := false

/-- The machine right after reset, in the reference configuration (R5, R49, log 1). -/
def State.reset : State := State.resetOf Params.reference

end Sys2Proof.Machine
end

