-- ==== Sys2Proof/Machine/Ops.lean ====
section
/-!
DEFINITION. The named operations over State: W-bit registers and their words, free values, reset, the end of a command
(the block's only "exception", R171 and R183), accepting a CMD write, dropping one, and writing a command's results.
-/

namespace Sys2Proof.Machine

/-! ### W-bit registers -/

/-- Reads register `q` as its words. -/
def State.reg (s : State) : Reg → WideReg
  | .a => s.a
  | .b => s.b
  | .e => s.e
  | .n => s.n
  | .r => s.r
  | .g => s.g
  | .x => s.x
  | .y => s.y

/-- Writes all the words of register `q`. -/
def State.setReg (s : State) (q : Reg) (ws : WideReg) : State :=
  match q with
  | .a => { s with a := ws }
  | .b => { s with b := ws }
  | .e => { s with e := ws }
  | .n => { s with n := ws }
  | .r => { s with r := ws }
  | .g => { s with g := ws }
  | .x => { s with x := ws }
  | .y => { s with y := ws }

/-- The unsigned integer that words hold, word 0 the least significant (R9). -/
def wordsValue : WideReg → Nat
  | [] => 0
  | w :: ws => w.bits.toNat + 2 ^ 32 * wordsValue ws

/-- The `nw` words, all defined, that hold `v` (R9, R46). -/
def wordsOf : Nat → Nat → WideReg
  | 0, _ => []
  | nw + 1, v => { bits := BitVec.ofNat 32 v, defined := true } :: wordsOf nw (v / 2 ^ 32)

/-- Every word is defined (R46). -/
def wordsDefined (ws : WideReg) : Bool := ws.all (·.defined)

/-- `val(q)` (R9). -/
def State.val (s : State) (q : Reg) : Nat := wordsValue (s.reg q)

/-- Every word of register `q` is defined. -/
def State.regDefined (s : State) (q : Reg) : Bool := wordsDefined (s.reg q)

/-- A host write of word `k` of register `q`: the word becomes defined (R41, R46). -/
def State.setWord (s : State) (q : Reg) (k : Nat) (d : Word) : State :=
  s.setReg q ((s.reg q).set k { bits := d, defined := true })

/-- STATUS.BUSY (R28, R50). -/
def State.busy (s : State) : Bool := s.pend.isSome

/-! ### Free values -/

/-- A W-bit `UNSPEC` value: `nw` words drawn from draw `c` on (R11). -/
def drawValue : Nat → Nat → Nat
  | 0, _ => 0
  | nw + 1, c => (Config.freeWord c).toNat + 2 ^ 32 * drawValue nw (c + 1)

/-- What reading a word gives: its bits, or draw `c` when it is UNDEF (R46). -/
def DataWord.readAs (w : DataWord) (c : Nat) : Word := if w.defined then w.bits else Config.freeWord c

/-! ### Reset -/

/-- Every piece of the spec's state takes its reset value (R49, R200, R202); the parameters and the model's own fields
stay (log 14). A command in flight is discarded. -/
def State.hardReset (s : State) : State :=
  { State.resetOf s.hw with
    schedule := s.schedule, resp := s.resp, draws := s.draws, onUndef := s.onUndef, undefOperand := s.undefOperand }

/-! ### Command end, issue and drop -/

/-- The end of a command, with or without error (R105, R110, R171, R183): ERRCODE and DONE are written and PEND is `none`.
No context is saved and no control is transferred. -/
def State.endCommand (s : State) (code : ErrorCode) : State :=
  { s with errcode := code, done := true, pend := none }

/-- The first lines of `Issue(c)` (R104): CMDREG takes the word, DONE and ERRCODE are cleared. -/
def State.acceptCommand (s : State) (c : Word) : State :=
  { s with cmdreg := c, done := false, errcode := .noError }

/-- A successful issue sets PEND; BUSY reads 1 from now on (R104). -/
def State.startCommand (s : State) (i : Instr) : State := { s with pend := some i }

/-- A CMD write while BUSY is dropped and sets OVR only (R106). -/
def State.dropCommand (s : State) : State := { s with ovr := true }

/-- An illegal word ends its command at once (R105, R172). -/
def State.issueIllegal (s : State) (c : Word) : State := (s.acceptCommand c).endCommand .illegalCommand

/-! ### Results of a completion -/

/-- `(res, err)` of R110: the registers and flags a completion writes, `none` for those it leaves alone. -/
structure Results where
  r : Option Nat := none
  g : Option Nat := none
  x : Option Nat := none
  y : Option Nat := none
  xneg : Option Bool := none
  yneg : Option Bool := none
  early : Option Bool := none
  err : ErrorCode := .noError
  deriving DecidableEq, Repr

/-- A listed value is below `2^W`. -/
def fitsWidth (p : Params) : Option Nat → Bool
  | none => true
  | some v => decide (v < 2 ^ p.width)

/-- Every listed register value fits W bits (R152, I10). -/
def Results.fits (res : Results) (p : Params) : Bool :=
  fitsWidth p res.r && fitsWidth p res.g && fitsWidth p res.x && fitsWidth p res.y

/-- A register after a completion: the value if one is listed, as NW defined words, else what it held (R110). -/
def resultWords (nw : Nat) (v : Option Nat) (old : WideReg) : WideReg :=
  match v with
  | none => old
  | some v => wordsOf nw v

/-- A bit of RFLAGS after a completion: defined if it is listed, else what it was (R110). -/
def resultFlag (v : Option Bool) (old : FlagBit) : FlagBit :=
  match v with
  | none => old
  | some v => { bit := v, defined := true }

/-- The completion's writes, one indivisible step (R110). -/
def State.writeResults (s : State) (res : Results) : State :=
  { s.endCommand res.err with
    r := resultWords s.hw.nw res.r s.r
    g := resultWords s.hw.nw res.g s.g
    x := resultWords s.hw.nw res.x s.x
    y := resultWords s.hw.nw res.y s.y
    xneg := resultFlag res.xneg s.xneg
    yneg := resultFlag res.yneg s.yneg
    early := resultFlag res.early s.early }

/-- Advances the count of draws past `k` free values. -/
def State.drew (s : State) (k : Nat) : State := { s with draws := s.draws + k }

end Sys2Proof.Machine
end

