-- ==== Sys2Proof/Machine/Flags.lean ====
section
/-!
DEFINITION. The status words and flags: ID, HWCFG, CTRL, STATUS and RFLAGS as a host reads them, the error codes, IRQ, and
the sign flag of a coefficient.
-/

namespace Sys2Proof.Machine

/-- ID: the ASCII string RSA1 (R23). -/
def idWord : Word := 0x52534131#32

/-- The code of an error in STATUS.ERRCODE (R170). -/
def errorCode : ErrorCode → BitVec 4
  | .noError => 0#4
  | .illegalCommand => 1#4
  | .invalidModulus => 2#4
  | .noModularInverse => 3#4

/-- HWCFG.RED (R24). -/
def reductionCode : Reduction → BitVec 2
  | .montgomery => 0#2
  | .barrett => 1#2

/-- HWCFG, `{14'b0, RED, NW}` (R24). -/
def hwcfgWord (p : Params) : Word := 0#14 ++ reductionCode p.red ++ BitVec.ofNat 16 p.nw

/-- CTRL as read: `zext_32(IE)`, so SRST and the reserved bits read 0 (R26, R27). -/
def State.ctrlWord (s : State) : Word := (BitVec.ofBool s.ie).setWidth 32

/-- STATUS.ERR: ERRCODE is not 0 (R30). -/
def State.err (s : State) : Bool := s.errcode != .noError

/-- STATUS as read, `{14'b0, WBUSY, OVR, 8'b0, ERRCODE, 1'b0, ERR, DONE, BUSY}` (R34). -/
def State.statusWord (s : State) : Word :=
  0#14 ++ BitVec.ofBool s.wbusy ++ BitVec.ofBool s.ovr ++ 0#8 ++ errorCode s.errcode ++ 0#1 ++
    BitVec.ofBool s.err ++ BitVec.ofBool s.done ++ BitVec.ofBool s.busy

/-- A bit of RFLAGS as read: bit `j` of draw `c` while BUSY or when it is UNDEF (R39, R46, R210). -/
def FlagBit.readAs (f : FlagBit) (busy : Bool) (c j : Nat) : Bool :=
  if busy || !f.defined then (Config.freeWord c).getLsbD j else f.bit

/-- RFLAGS as read, `{29'b0, EARLY, YNEG, XNEG}` (R39); bits [31:3] read 0 while BUSY too (log 3). -/
def State.rflagsWord (s : State) : Word :=
  0#29 ++ BitVec.ofBool (s.early.readAs s.busy s.draws 2) ++ BitVec.ofBool (s.yneg.readAs s.busy s.draws 1) ++
    BitVec.ofBool (s.xneg.readAs s.busy s.draws 0)

/-- The interrupt output, `IE AND DONE` (R47, R180). -/
def State.irq (s : State) : Bool := s.ie && s.done

/-- The sign flag of a coefficient: 1 means negative (R36, R37, R153). -/
def signFlag (z : Int) : Bool := decide (z < 0)

end Sys2Proof.Machine
end

