-- ==== Sys2Proof/Machine/Operands.lean ====
section
/-!
DEFINITION. The operands of a command: which registers it reads (R91, R108), their values (R9), and the signed operands
of EXTGCD (R87).
-/

namespace Sys2Proof.Machine

/-- The operand set of a command (R108). -/
def operandRegs : Instr → List Reg
  | .modmul => [.a, .b, .n]
  | .modexp => [.a, .e, .n]
  | .extgcd _ _ => [.a, .b]
  | .modinv => [.a, .n]

/-- No word of the operand set is UNDEF: the definedness check of R104. -/
def State.operandsDefined (s : State) (i : Instr) : Bool := (operandRegs i).all s.regDefined

/-- The commands that have N as their modulus (R104). -/
def usesModulus : Instr → Bool
  | .modmul => true
  | .modexp => true
  | .extgcd _ _ => false
  | .modinv => true

/-- The modulus check of R104: N = 0 for a command that uses N. -/
def State.modulusZero (s : State) (i : Instr) : Bool := usesModulus i && s.val .n == 0

/-- The operand values a completion computes from (R110). -/
structure Operands where
  a : Nat
  b : Nat
  e : Nat
  n : Nat
  deriving DecidableEq, Repr

/-- The operands as unsigned W-bit values (R91, R110). -/
def State.operands (s : State) : Operands :=
  { a := s.val .a, b := s.val .b, e := s.val .e, n := s.val .n }

/-- The signed operand of a magnitude and its sign bit (R87); minus zero is zero (R155). -/
def signedOperand (neg : Bool) (magnitude : Nat) : Int :=
  if neg then -(magnitude : Int) else (magnitude : Int)

end Sys2Proof.Machine
end

