-- ==== Sys2Proof/Machine/Command.lean ====
section
/-!
DEFINITION. What every command shares: the issue (R104, R105, R107) and the completion (R110), and the two halves put
together as the shape of a meaning (log 7).
-/

namespace Sys2Proof.Machine

/-- Whether an issue that met an UNDEF operand word ends with INVALID_MODULUS: certainly when N is wholly defined and 0
(R173), else "possibly", by a free bit (R46, log 15). EXTGCD never does (R173). -/
def State.undefRefused (s : State) (i : Instr) : Bool :=
  usesModulus i && ((s.regDefined .n && s.val .n == 0) || Config.freeBit s.draws)

/-- The issue of a command with an UNDEF operand word where the hardware goes on, after CMDREG, DONE and ERRCODE are
written (R46, log 5): the command is in flight, or ended with INVALID_MODULUS, and `undefOperand` records the condition. -/
def State.issueUndef (s : State) (i : Instr) : State :=
  { s with
    done := s.undefRefused i
    errcode := if s.undefRefused i then .invalidModulus else .noError
    pend := if s.undefRefused i then none else some i
    draws := s.draws + 1
    undefOperand := true }

/-- `Issue` of a legal word, PEND being `none` (R104, R105), in the check order of R107: legality is the decoder's, then
operand definedness, then the modulus. CMDREG takes the command's one word (R35, R86). On an UNDEF operand word the
model faults, or goes on as the hardware does, by the reading of R46 it follows (log 5). -/
def State.issue (s : State) (i : Instr) : Host.Outcome State Fault Refusal :=
  if s.operandsDefined i then
    if s.modulusZero i then .next ((s.acceptCommand (encode i)).endCommand .invalidModulus)
    else .next ((s.acceptCommand (encode i)).startCommand i)
  else match s.onUndef with
    | .modelFaults => .fault .undefOperand
    | .hardwareGoesOn => .next ((s.acceptCommand (encode i)).issueUndef i)

/-- The completion of a command on results: they are written and the command ends (R110), unless one does not fit its
register, which the spec has a model refuse (I10, log 9). -/
def State.finish (s : State) (res : Results) : Host.Outcome State Fault Refusal :=
  if res.fits s.hw then .next (s.writeResults res) else .refused .resultDoesNotFit

/-- How many free words a completion on UNDEF operands may use: one W-bit value for each result register. -/
def freeDraws (p : Params) : Nat := 4 * p.nw

/-- The completion of a command whose operand set holds an UNDEF word, which only an issue that went on leads to: its
results are `UNSPEC` (R46, log 16). They are written and the command ends as for any completion. -/
def State.finishUndef (s : State) (res : Results) : State :=
  (s.writeResults res).drew (freeDraws s.hw)

/-- The engine's completion of command `i` (R110). With N = 0 no result is ever computed (R105, R178): such a completion,
which no issue leads to, ends with INVALID_MODULUS (log 8). -/
def State.completeWith (s : State) (i : Instr) (result : Operands → Results) (free : Params → Nat → Results) :
    Host.Outcome State Fault Refusal :=
  if s.operandsDefined i then
    if s.modulusZero i then .next (s.endCommand .invalidModulus) else s.finish (result s.operands)
  else .next (s.finishUndef (free s.hw s.draws))

/-- The meaning of command `i` (log 7). With PEND = `none` it is the issue inside the CMD write; with PEND = `i` it is the
engine's completion; with another command in flight a CMD write is dropped (R106). `result` is the command's result
function (R111), `free` its results on UNDEF operands. -/
def runCommand (i : Instr) (result : Operands → Results) (free : Params → Nat → Results) (s : State) :
    Host.Outcome State Fault Refusal :=
  match s.pend with
  | none => s.issue i
  | some j => if j = i then s.completeWith i result free else .next s.dropCommand

end Sys2Proof.Machine
end

