-- ==== Sys2Proof/Machine/Gcd.lean ====
section
/-!
DEFINITION. EXTGCD and MODINV (R150 to R162): the iterative extended Euclid of R151 with its sign correction.
-/

namespace Sys2Proof.Machine

/-- The loop of R151: from two remainders and their coefficient pairs to (g, x, y), on mathematical integers. The first
argument bounds the number of iterations, so that the recursion is structural (log 18). -/
def egcdLoop : Nat → Nat → Nat → Int → Int → Int → Int → Nat × Int × Int
  | 0, r0, _, s0, _, t0, _ => (r0, s0, t0)
  | fuel + 1, r0, r1, s0, s1, t0, t1 =>
    if r1 = 0 then (r0, s0, t0)
    else egcdLoop fuel r1 (r0 - r0 / r1 * r1) s1 (s0 - (r0 / r1 : Nat) * s1) t1 (t0 - (r0 / r1 : Nat) * t1)

/-- The iterations R151 can take on a second magnitude `mb`: two of them at least halve the remainder (R158). -/
def egcdFuel (mb : Nat) : Nat := 2 * (mb.log2 + 1) + 1

/-- The sign correction of R151: the coefficient of a negative input other than zero is negated (R154, R155). -/
def signCorrect (neg : Bool) (magnitude : Nat) (z : Int) : Int :=
  if neg && magnitude != 0 then -z else z

/-- `egcd(ma, na, mb, nb)` of R151: (g, x, y). -/
def egcd (ma : Nat) (na : Bool) (mb : Nat) (nb : Bool) : Nat × Int × Int :=
  let gxy := egcdLoop (egcdFuel mb) ma mb 1 0 0 1
  (gxy.1, signCorrect na ma gxy.2.1, signCorrect nb mb gxy.2.2)

/-- G, X, Y, XNEG, YNEG and EARLY <- 0 of a triple (g, x, y), in sign-magnitude (R153, R160). -/
def bezoutResults (gxy : Nat × Int × Int) : Results :=
  { g := some gxy.1
    x := some gxy.2.1.natAbs
    y := some gxy.2.2.natAbs
    xneg := some (signFlag gxy.2.1)
    yneg := some (signFlag gxy.2.2)
    early := some false }

/-- The results of EXTGCD (R153). -/
def extgcdResults (na nb : Bool) (o : Operands) : Results := bezoutResults (egcd o.a na o.b nb)

/-- A free coefficient: a free W-bit magnitude from draw `c` on, and a free sign (R46, log 16). -/
def freeCoefficient (p : Params) (c : Nat) : Int := signedOperand (Config.freeBit c) (drawValue p.nw c)

/-- A free triple (g, x, y) (R46). -/
def freeTriple (p : Params) (c : Nat) : Nat × Int × Int :=
  (drawValue p.nw c, freeCoefficient p (c + p.nw), freeCoefficient p (c + 2 * p.nw))

/-- The results of EXTGCD on an UNDEF operand word: G, x and y are free; the registers and flags are computed from them,
and EARLY <- 0 as always (R46, R153). -/
def extgcdFree (p : Params) (c : Nat) : Results := bezoutResults (freeTriple p c)

/-- MODINV's last lines (R160): with G = 1 R takes a value and there is no error, else R is left alone and the error is
NO_MODULAR_INVERSE (R174). -/
def inverseResults (gxy : Nat × Int × Int) (inverse : Nat) : Results :=
  { bezoutResults gxy with
    r := if gxy.1 = 1 then some inverse else none
    err := if gxy.1 = 1 then .noError else .noModularInverse }

/-- `x mod n`, in `[0, n)` for a negative `x` too (R10, R160). -/
def reduceCoefficient (x : Int) (n : Nat) : Nat := (x % (n : Int)).toNat

/-- The results of MODINV (R160). -/
def modinvResults (o : Operands) : Results :=
  inverseResults (egcd o.a false o.n false) (reduceCoefficient (egcd o.a false o.n false).2.1 o.n)

/-- The results of MODINV on an UNDEF operand word: g, x, y and the value of R are free, the rest follows from them. -/
def modinvFree (p : Params) (c : Nat) : Results :=
  inverseResults (freeTriple p c) (drawValue p.nw (c + 3 * p.nw))

/-- EXTGCD (R153). -/
def execExtgcd (na nb : Bool) (s : State) : Host.Outcome State Fault Refusal :=
  runCommand (.extgcd na nb) (extgcdResults na nb) extgcdFree s

/-- MODINV (R160). -/
def execModinv (s : State) : Host.Outcome State Fault Refusal :=
  runCommand .modinv modinvResults modinvFree s

end Sys2Proof.Machine
end

