-- ==== Sys2Proof/Machine/ModExp.lean ====
section
/-!
DEFINITION. MODEXP (R140 to R144): exponentiation by squaring with the early exit of R141, in the order of R140.
-/

namespace Sys2Proof.Machine

/-- The loop of R140 from an accumulator, a reduced base and an exponent: (R, EARLY). The first argument bounds the number
of iterations, so that the recursion is structural (log 18). -/
def modexpLoop (n : Nat) : Nat → Nat → Nat → Nat → Nat × Bool
  | 0, acc, _, _ => (acc, false)
  | fuel + 1, acc, b, e =>
    if e = 0 then (acc, false)
    else if b = 0 then (0, true)
    else if b = 1 then (acc, true)
    else modexpLoop n fuel (if e % 2 = 1 then acc * b % n else acc) (b * b % n) (e / 2)

/-- The iterations R140 can take: each halves `e` (R143). -/
def modexpFuel (e : Nat) : Nat := e.log2 + 1

/-- `modexp(a, e, n)` of R140. -/
def modexpValue (a e n : Nat) : Nat × Bool := modexpLoop n (modexpFuel e) (1 % n) (a % n) e

/-- The results of MODEXP: R and EARLY (R140). -/
def modexpResults (o : Operands) : Results :=
  { r := some (modexpValue o.a o.e o.n).1, early := some (modexpValue o.a o.e o.n).2 }

/-- The results of MODEXP on an UNDEF operand word: both are free (R46). -/
def modexpFree (p : Params) (c : Nat) : Results :=
  { r := some (drawValue p.nw c), early := some (Config.freeBit c) }

/-- MODEXP (R140). -/
def execModexp (s : State) : Host.Outcome State Fault Refusal :=
  runCommand .modexp modexpResults modexpFree s

end Sys2Proof.Machine
end

