-- ==== Sys2Proof/Machine/ModMul.lean ====
section
/-!
DEFINITION. MODMUL (R130 to R133). The reduction method is invisible (R131): there is one meaning for both values of RED.
-/

namespace Sys2Proof.Machine

/-- `(a * b) mod n`: the exact product, then reduced; `a` and `b` need not be below `n` (R130, R132). -/
def modmulValue (a b n : Nat) : Nat := a * b % n

/-- The results of MODMUL: R, and EARLY <- 0 (R130). -/
def modmulResults (o : Operands) : Results :=
  { r := some (modmulValue o.a o.b o.n), early := some false }

/-- The results of MODMUL on an UNDEF operand word: R is free, EARLY <- 0 as always (R46, R130). -/
def modmulFree (p : Params) (c : Nat) : Results :=
  { r := some (drawValue p.nw c), early := some false }

/-- MODMUL (R130). -/
def execModmul (s : State) : Host.Outcome State Fault Refusal :=
  runCommand .modmul modmulResults modmulFree s

end Sys2Proof.Machine
end

