-- ==== Sys2Proof/Machine/Dispatch.lean ====
section
/-!
DEFINITION. The meaning of each command, one arm a constructor (R111).
-/

namespace Sys2Proof.Machine

def exec (i : Instr) (s : State) : Host.Outcome State Fault Refusal :=
  match i with
  | .modmul => Sys2Proof.Machine.execModmul s
  | .modexp => Sys2Proof.Machine.execModexp s
  | .extgcd na nb => Sys2Proof.Machine.execExtgcd na nb s
  | .modinv => Sys2Proof.Machine.execModinv s

end Sys2Proof.Machine
end

