-- ==== Sys2Proof/Machine/Port.lean ====
section
/-!
DEFINITION. The register port (R21, R60 to R67, R101 to R103): the address map, reads, writes, bus errors, the CMD write,
and one step of each agent (R100).
-/

namespace Sys2Proof.Machine

/-! ### The address map (R21, R40) -/

/-- The size of the aperture (R60). -/
def apertureSize : Nat := 0x4000

/-- The size of a register's window (R40). -/
def windowSize : Nat := 0x400

/-- The base of each register's window (R40). -/
def windowBase : Reg → Nat
  | .a => 0x0400
  | .b => 0x0800
  | .e => 0x0C00
  | .n => 0x1000
  | .r => 0x1400
  | .g => 0x1800
  | .x => 0x1C00
  | .y => 0x2000

/-- The offset of slot `k` of a register's window (R40, R113). -/
def slotOffset (q : Reg) (k : Nat) : Nat := windowBase q + 4 * k

/-- The register whose window is the i-th KiB of the aperture (R21). -/
def windowAt : Nat → Option Reg
  | 1 => some .a
  | 2 => some .b
  | 3 => some .e
  | 4 => some .n
  | 5 => some .r
  | 6 => some .g
  | 7 => some .x
  | 8 => some .y
  | _ => none

/-- What an aligned offset reaches (R21, R65). -/
def target (off : Nat) : Target :=
  if off = 0x000 then .id
  else if off = 0x004 then .hwcfg
  else if off = 0x008 then .ctrl
  else if off = 0x00C then .status
  else if off = 0x010 then .cmd
  else if off = 0x014 then .rflags
  else match windowAt (off / windowSize) with
    | some q => .slot q (off % windowSize / 4)
    | none => .reserved

/-- The offset of each control register (R21). -/
def offsetId : Nat := 0x000
def offsetHwcfg : Nat := 0x004
def offsetCtrl : Nat := 0x008
def offsetStatus : Nat := 0x00C
def offsetCmd : Nat := 0x010
def offsetRflags : Nat := 0x014

/-- A, B, E and N are the operand registers (R41); R, G, X and Y the result registers (R42). -/
def isOperand : Reg → Bool
  | .a | .b | .e | .n => true
  | .r | .g | .x | .y => false

/-! ### Reads (R101) -/

/-- A read of slot `k` of a window: 0 from slot NW on (R43); a result register while BUSY and an UNDEF word are `UNSPEC`
(R41, R42, R46, R210). -/
def State.readSlot (s : State) (q : Reg) (k : Nat) : Word :=
  if s.hw.nw ≤ k then 0x00000000#32
  else if s.busy && !isOperand q then Config.freeWord s.draws
  else ((s.reg q).getD k DataWord.undef).readAs s.draws

/-- The data of an accepted read (R101). A reserved target is never accepted; its arm stands for totality. -/
def State.readTarget (s : State) : Target → Word
  | .id => idWord
  | .hwcfg => hwcfgWord s.hw
  | .ctrl => s.ctrlWord
  | .status => s.statusWord
  | .cmd => s.cmdreg
  | .rflags => s.rflagsWord
  | .slot q k => s.readSlot q k
  | .reserved => Config.freeWord s.draws

/-- An accepted read: the data is given and nothing of the spec's state changes (R66). The count of draws advances, so
that the next read draws anew (I2). -/
def State.acceptRead (s : State) (t : Target) : State :=
  { s with resp := some (.data (s.readTarget t)), draws := s.draws + 1 }

/-! ### Writes (R102, R103, R26, R27, R34) -/

/-- A write to CTRL: SRST resets (R26, R202), else IE is written (R25, R27). -/
def State.writeCtrl (s : State) (d : Word) : State :=
  if d.getLsbD 1 then s.hardReset else { s with ie := d.getLsbD 0 }

/-- A write to STATUS clears the W1C bits that are written 1 (R34). -/
def State.writeStatus (s : State) (d : Word) : State :=
  { s with
    done := s.done && !d.getLsbD 1
    ovr := s.ovr && !d.getLsbD 16
    wbusy := s.wbusy && !d.getLsbD 17 }

/-- A write to slot `k` of a window: ignored from slot NW on (R43) and on a result register (R42); on an operand register
dropped and flagged while BUSY, else the word is written (R102). -/
def State.writeSlot (s : State) (q : Reg) (k : Nat) (d : Word) : State :=
  if s.hw.nw ≤ k then s
  else if isOperand q then
    if s.busy then { s with wbusy := true } else s.setWord q k d
  else s

/-- A write to CMD (R103): dropped while BUSY (R106), else the issue of a command (R104) or of an illegal word (R105). -/
def State.writeCommand (s : State) (c : Word) : Host.Outcome State Fault Refusal :=
  match s.pend with
  | some _ => .next s.dropCommand
  | none =>
    match decode c with
    | some i => exec i s
    | none => .next (s.issueIllegal c)

/-- The effect of an accepted write. ID, HWCFG and RFLAGS ignore it (R23, R24, R39). -/
def State.writeTarget (s : State) (t : Target) (d : Word) : Host.Outcome State Fault Refusal :=
  match t with
  | .id => .next s
  | .hwcfg => .next s
  | .ctrl => .next (s.writeCtrl d)
  | .status => .next (s.writeStatus d)
  | .cmd => s.writeCommand d
  | .rflags => .next s
  | .slot q k => .next (s.writeSlot q k d)
  | .reserved => .next s

/-! ### Transactions -/

/-- An address of the aperture `[BASE, BASE + 0x4000)` (R60). -/
def inAperture (p : Params) (addr : Nat) : Bool := decide (p.base ≤ addr) && decide (addr < p.base + apertureSize)

/-- The port accepts an aligned 32-bit access to a mapped offset (R63); any other gets SLVERR (R64, R65). -/
def accepted (off size : Nat) : Bool := size == 4 && off % 4 == 0 && target off != .reserved

/-- A refused access: SLVERR and no other effect (R64, R65, R175). -/
def State.busError (s : State) : State := { s with resp := some .slverr }

/-- A bus master's read (R101). -/
def State.busRead (s : State) (addr size : Nat) : Host.Outcome State Fault Refusal :=
  if inAperture s.hw addr then
    if accepted (addr - s.hw.base) size then .next (s.acceptRead (target (addr - s.hw.base)))
    else .next s.busError
  else .fault .outsideAperture

/-- A bus master's write (R102, R103). An accepted one is answered OKAY, whatever its effect. -/
def State.busWrite (s : State) (addr size : Nat) (d : Word) : Host.Outcome State Fault Refusal :=
  if inAperture s.hw addr then
    if accepted (addr - s.hw.base) size then
      { s with resp := some .okay }.writeTarget (target (addr - s.hw.base)) d
    else .next s.busError
  else .fault .outsideAperture

/-- The engine's step (R109, R110): the command in flight completes. With none in flight the step is not enabled and
nothing changes. -/
def State.engineStep (s : State) : Host.Outcome State Fault Refusal :=
  match s.pend with
  | some i => exec i s
  | none => .next s

/-- One step of an agent (R100). -/
def State.perform (s : State) : Event → Host.Outcome State Fault Refusal
  | .read addr size => s.busRead addr size
  | .write addr size d => s.busWrite addr size d
  | .complete => s.engineStep
  | .hardReset => .next s.hardReset

/-- The next event in the port's total order (R69): the head of the schedule; with nothing scheduled the engine moves, for
its completion is not postponed forever (R8, R109, log 6). -/
def State.nextEvent (s : State) : Event := s.schedule.headD .complete

/-- `s` after the next event is taken off the schedule. -/
def State.taken (s : State) : State := { s with schedule := s.schedule.tail }

/-- The next agent's step (R69, R100). -/
def State.nextStep (s : State) : Host.Outcome State Fault Refusal := s.taken.perform s.nextEvent

/-- The CMD write that issues the command word `c` (R80). -/
def commandWrite (p : Params) (c : Word) : Event := .write (p.base + offsetCmd) 4 c

end Sys2Proof.Machine
end

