-- ==== Sys2Proof/Machine/Step.lean ====
section
/-!
DEFINITION. One step of the machine, and how the host places a command where the next step takes it.
-/

namespace Sys2Proof.Machine

/-- One step: the next agent's step in the port's total order (R69, R100). -/
def step (s : State) : Host.Outcome State Fault Refusal := s.nextStep

/-- `s` with the command word `w` as the very next transaction: the CMD write of that word heads the schedule, and no
command is in flight, so that the write is not dropped (R103). The block fetches no instructions (R2, R73): a command is
the CMD write itself (log 6). Whether or not its operands are loaded the command runs: the machine goes on at an UNDEF
operand word as the hardware does, where State.reset has the spec's model fault (R46, log 5). -/
def State.withFetchWord (s : State) (nbits w : Nat) : State :=
  { s with
    pend := none
    onUndef := .hardwareGoesOn
    schedule := commandWrite s.hw (BitVec.ofNat 32 (w % 2 ^ nbits)) :: s.schedule }

end Sys2Proof.Machine
end

