-- ==== Sys2Proof/Machine/HostSyntax.lean ====
section
/-!
DEFINITION. The host-sequence notation of R94 and the pseudo-instructions of R95, as the transactions they stand for. The
host's labels, branches and variables are its own control flow and no part of the block (R94, log 19).
-/

namespace Sys2Proof.Machine

/-- `WR <off>, <imm32>` (R94). -/
def hostWR (p : Params) (off : Nat) (d : Word) : Event := .write (p.base + off) 4 d

/-- `RD <v>, <off>` (R94). -/
def hostRD (p : Params) (off : Nat) : Event := .read (p.base + off) 4

/-- The command mnemonics of the notation (R94). -/
def commandSpelling : Instr → String
  | .modmul => "MODMUL"
  | .modexp => "MODEXP"
  | .extgcd false false => "EXTGCD"
  | .extgcd true false => "EXTGCD.NA"
  | .extgcd false true => "EXTGCD.NB"
  | .extgcd true true => "EXTGCD.NA.NB"
  | .modinv => "MODINV"

/-- Bits [32k+31:32k] of a value: its word `k` (R9). -/
def valueWord (v k : Nat) : Word := BitVec.ofNat 32 (v / 2 ^ (32 * k))

/-- The words `k, k+1, ...` of `LOAD`, as many as the first argument says, in increasing order (R95). -/
def hostLoadFrom (p : Params) (q : Reg) (v : Nat) : Nat → Nat → List Event
  | 0, _ => []
  | count + 1, k => hostWR p (slotOffset q k) (valueWord v k) :: hostLoadFrom p q v count (k + 1)

/-- `LOAD <Reg>, <v>`: every one of the NW words, the high zero words included (R95). -/
def hostLoad (p : Params) (q : Reg) (v : Nat) : List Event := hostLoadFrom p q v p.nw 0

/-- `ISSUE <mnemonic>` (R95). -/
def hostIssue (p : Params) (i : Instr) : Event := commandWrite p (encode i)

/-- One turn of `WAIT`: the read of STATUS (R95). -/
def hostWaitRead (p : Params) : Event := hostRD p offsetStatus

/-- `BNZ s & 0x1, L` of `WAIT`: the host loops while the STATUS it read has BUSY = 1 (R95). -/
def hostWaitAgain (statusRead : Word) : Bool := statusRead.getLsbD 0

/-- The reads of `FETCH` from slot `k` on (R95). -/
def hostFetchFrom (p : Params) (q : Reg) : Nat → Nat → List Event
  | 0, _ => []
  | count + 1, k => hostRD p (slotOffset q k) :: hostFetchFrom p q count (k + 1)

/-- The reads of `FETCH <v>, <Reg>` (R95). -/
def hostFetch (p : Params) (q : Reg) : List Event := hostFetchFrom p q p.nw 0

/-- The value `FETCH` makes of the words it read, `sum of w_k * 2^(32k)` (R95). -/
def hostFetchValue : List Word → Nat
  | [] => 0
  | w :: ws => w.toNat + 2 ^ 32 * hostFetchValue ws

/-- `ACK`: clear DONE (R95). -/
def hostAck (p : Params) : Event := hostWR p offsetStatus 0x00000002#32

/-- `CLRSTICKY`: clear OVR and WBUSY (R95). -/
def hostClrSticky (p : Params) : Event := hostWR p offsetStatus 0x00030000#32

/-- `SRST` (R95). -/
def hostSrst (p : Params) : Event := hostWR p offsetCtrl 0x00000002#32

/-- `COPY <Dst>, <Src>` from slot `k` on, the host writing the words `ts` it has read (R95, R115). -/
def hostCopyFrom (p : Params) (dst src : Reg) : List Word → Nat → List Event
  | [], _ => []
  | t :: ts, k =>
    hostRD p (slotOffset src k) :: hostWR p (slotOffset dst k) t :: hostCopyFrom p dst src ts (k + 1)

/-- `COPY <Dst>, <Src>` with the words read (R95). -/
def hostCopy (p : Params) (dst src : Reg) (ts : List Word) : List Event := hostCopyFrom p dst src ts 0

end Sys2Proof.Machine
end

