-- ==== Sys2Proof/Safety.lean ====
section
/-!
DEFINITION. The terms claims are stated in: the shape and the invariant of a state, a step that completes, a run on loaded
operands, and the events that leave a command in flight alone.
-/

namespace Sys2Proof.Machine

/-- The parameters are legal (R5, R6) and every W-bit register has its NW words (R9, R40). -/
def State.Shaped (s : State) : Bool :=
  s.hw.Legal && (s.a.length == s.hw.nw) && (s.b.length == s.hw.nw) && (s.e.length == s.hw.nw) &&
    (s.n.length == s.hw.nw) && (s.r.length == s.hw.nw) && (s.g.length == s.hw.nw) && (s.x.length == s.hw.nw) &&
    (s.y.length == s.hw.nw)

/-- What holds while a command is in flight: DONE is 0 (R104), ERRCODE is 0 (R31, R104), CMDREG is its word (R35), and
the modulus of a command that uses one is not 0 if it is wholly defined (R104, R173); and no operand word is UNDEF where
the model faults at the issue of such a command (R46, R104). -/
def State.FlightOk (s : State) : Bool :=
  match s.pend with
  | none => true
  | some i => !s.done && s.errcode == .noError && s.cmdreg == encode i && !(s.regDefined .n && s.modulusZero i) &&
      (s.onUndef == .hardwareGoesOn || s.operandsDefined i)

/-- A sign bit is 0 whenever its coefficient is 0 (R36, R37). -/
def signOk (sign : FlagBit) (magnitude : Nat) : Bool := !(sign.defined && sign.bit && magnitude == 0)

/-- The invariant of the machine: every step keeps it, and the reset state has it. -/
def State.Inv (s : State) : Bool :=
  s.Shaped && s.FlightOk && signOk s.xneg (s.val .x) && signOk s.yneg (s.val .y)

/-- The value of every field of the spec's state after either reset (R49). What stands behind an UNDEF mark is left
open. -/
def State.AtReset (s : State) : Prop :=
  s.ie = false ∧ s.done = false ∧ s.errcode = .noError ∧ s.ovr = false ∧ s.wbusy = false ∧ s.cmdreg = 0x00000000#32 ∧
    s.xneg.defined = false ∧ s.yneg.defined = false ∧ s.early.defined = false ∧ s.pend = none ∧
    ∀ q, (s.reg q).length = s.hw.nw ∧ ∀ w ∈ s.reg q, w.defined = false

/-- The results and flags of a completion are the same in both states (R110). -/
def State.SameResults (s t : State) : Prop :=
  s.r = t.r ∧ s.g = t.g ∧ s.x = t.x ∧ s.y = t.y ∧ s.xneg = t.xneg ∧ s.yneg = t.yneg ∧ s.early = t.early

/-- The operand registers are the same in both states (R41). -/
def State.SameOperands (s t : State) : Prop := s.a = t.a ∧ s.b = t.b ∧ s.e = t.e ∧ s.n = t.n

/-- No issue has met an UNDEF operand word and gone on so far: the runs that the spec's own model admits (R46, log 5). -/
def State.Loaded (s : State) : Bool := !s.undefOperand

/-- The word `c` is a legal command whose operand set holds an UNDEF word: the second check of R107. -/
def State.operandUndef (s : State) (c : Word) : Bool :=
  match decode c with
  | some i => !s.operandsDefined i
  | none => false

/-- The CMD write of `c` meets R104's MODEL FAULT: it is an issue, the word is legal, an operand word is UNDEF, and the
machine follows the model's sentence of R46. -/
def State.faultsAtIssue (s : State) (c : Word) : Bool :=
  s.onUndef == .modelFaults && !s.busy && s.operandUndef c

/-- A transaction the block decodes (R60); the engine's step and hard reset are no transactions. -/
def eventInAperture (p : Params) : Event → Bool
  | .read addr _ => inAperture p addr
  | .write addr _ _ => inAperture p addr
  | .complete => true
  | .hardReset => true

/-- An accepted write that reaches `q` with data that meets `f`. -/
def isWriteTo (p : Params) (q : Target) (f : Word → Bool) : Event → Bool
  | .write addr size d =>
    inAperture p addr && accepted (addr - p.base) size && target (addr - p.base) == q && f d
  | .read _ _ => false
  | .complete => false
  | .hardReset => false

/-- An accepted CMD write (R103). -/
def isCommandWrite (p : Params) (ev : Event) : Bool := isWriteTo p .cmd (fun _ => true) ev

/-- The next step is an issue at which the model faults with UndefOperand (R46, R104). -/
def State.faultsNext (s : State) : Bool := isWriteTo s.hw .cmd s.faultsAtIssue s.nextEvent

/-- An accepted write to STATUS with bit `j` set: the W1C acknowledgement of that bit (R34). -/
def isStatusClear (p : Params) (j : Nat) (ev : Event) : Bool := isWriteTo p .status (fun d => d.getLsbD j) ev

/-- An accepted write to a slot below NW of an operand window (R102). -/
def isOperandWrite (p : Params) (ev : Event) : Bool :=
  [Reg.a, Reg.b, Reg.e, Reg.n].any fun q => (List.range p.nw).any fun k => isWriteTo p (.slot q k) (fun _ => true) ev

/-- Either reset: the platform's, or an accepted write to CTRL with SRST set (R200, R202). -/
def isReset (p : Params) (ev : Event) : Bool := ev == .hardReset || isWriteTo p .ctrl (fun d => d.getLsbD 1) ev

/-- A transaction that leaves a command in flight alone: any of the aperture but a reset (R109). -/
def isQuiet (p : Params) (ev : Event) : Bool := eventInAperture p ev && !isReset p ev && ev != .complete

end Sys2Proof.Machine
end

