-- ==== Sys2Proof/Certificates/Slice0/Obligations.lean ====
section
/-!
DEFINITION. The statements for the provers. Each docstring cites the rule of spec/ it formalises, or the log entry whose
choice it is about. A statement about a completion names the next state and, as its frame, every field that may differ.
-/

open Sys2Proof Sys2Proof.Machine

/-! ### Encoding (30_encoding.md) -/

/-- R84, R85, R86, R88: each command has exactly its words, and each of them decodes to it. -/
def Obligations.EachCommandHasItsWord : Prop :=
  (∀ (c : Word) (i : Instr), decode c = some i ↔ c = encode i) ∧
    encode .modmul = 0x00000001#32 ∧ encode .modexp = 0x00000002#32 ∧ encode .modinv = 0x00000004#32 ∧
    encode (.extgcd false false) = 0x00000003#32 ∧ encode (.extgcd true false) = 0x00000103#32 ∧
    encode (.extgcd false true) = 0x00000203#32 ∧ encode (.extgcd true true) = 0x00000303#32

/-- R89: the illegal words are those of the four bullets, all but 7, and issuing one ends the command at once with
ILLEGAL_COMMAND, no operand or result state changed. -/
def Obligations.IllegalWordsAreAllButSeven : Prop :=
  (∀ c : Word, decode c = none ↔
    c.extractLsb' 0 8 = 0x00#8 ∨ 5 ≤ (c.extractLsb' 0 8).toNat ∨ c.extractLsb' 10 22 ≠ 0#22 ∨
      (c.extractLsb' 0 8 ≠ 0x03#8 ∧ c.extractLsb' 8 2 ≠ 0b00#2)) ∧
  (∀ c : Word, decode c ≠ none ↔
    c ∈ [0x00000001#32, 0x00000002#32, 0x00000003#32, 0x00000103#32, 0x00000203#32, 0x00000303#32, 0x00000004#32]) ∧
  (∀ (s : State) (c : Word), s.pend = none → decode c = none →
    ∃ t, s.writeCommand c = .next t ∧ t.errcode = .illegalCommand ∧ t.done = true ∧ t.pend = none ∧
      s.SameOperands t ∧ s.SameResults t)

/-- 95_test_vectors.md 2.5: the words written out there decode as it says. -/
def Obligations.TableWordsDecode : Prop :=
  decode 0x00000000#32 = none ∧ decode 0x00000001#32 = some .modmul ∧ decode 0x00000101#32 = none ∧
    decode 0x00000002#32 = some .modexp ∧ decode 0x00000202#32 = none ∧
    decode 0x00000003#32 = some (.extgcd false false) ∧ decode 0x00000103#32 = some (.extgcd true false) ∧
    decode 0x00000203#32 = some (.extgcd false true) ∧ decode 0x00000303#32 = some (.extgcd true true) ∧
    decode 0x00000403#32 = none ∧ decode 0x00000004#32 = some .modinv ∧ decode 0x00000104#32 = none ∧
    decode 0x00000005#32 = none ∧ decode 0x000000FF#32 = none ∧ decode 0x80000002#32 = none

/-- R61, R93: the four byte lanes of a word, lane 0 first, decode as the word does, whatever bytes follow. -/
def Obligations.ByteLanesDecodeAsTheWord : Prop :=
  ∀ (c : Word) (rest : List Byte),
    decodeBytes (bytesOfWord c ++ rest) = (decodeNamed c).map fun i => (i, rest)

/-! ### The issue of a command (40_command.md 2, 60_exceptions.md 1) -/

/-- The step that takes the CMD write of a decoded command is that command's exec, after the transaction is taken off the
schedule and answered OKAY (R103, R104). -/
def Obligations.StepRunsTheDecodedCommand : Prop :=
  ∀ (s : State) (c : Word) (i : Instr) (rest : List Event),
    s.schedule = hostWR s.hw 0x010 c :: rest → s.pend = none → decode c = some i →
      step s = exec i { s with schedule := rest, resp := some .okay }

/-- The engine's step is exec of the command in flight (R109, R110); it is taken where the schedule places it, or when
nothing else is scheduled (log 6). -/
def Obligations.StepCompletesTheCommandInFlight : Prop :=
  ∀ (s : State) (i : Instr), s.nextEvent = .complete → s.pend = some i →
    step s = exec i { s with schedule := s.schedule.tail }

/-- R104 with R105 and R107: what each check of Issue leads to. On defined operands and, for a command that uses N, a nonzero
N, the command is in flight; on defined operands and N = 0 it ends with INVALID_MODULUS; on an UNDEF operand word the model
faults with UndefOperand (R46, I3; the reading State.reset takes, log 5), so it does at any issue right after reset (R204);
an illegal word ends with ILLEGAL_COMMAND. Nothing else changes. -/
def Obligations.IssuePutsTheCommandInFlight : Prop :=
  (∀ (s : State) (i : Instr), s.pend = none → s.operandsDefined i = true → (usesModulus i = true → s.val .n ≠ 0) →
    exec i s = .next { s with cmdreg := encode i, done := false, errcode := .noError, pend := some i }) ∧
  (∀ (s : State) (i : Instr), s.pend = none → s.operandsDefined i = true → usesModulus i = true → s.val .n = 0 →
    exec i s = .next { s with cmdreg := encode i, done := true, errcode := .invalidModulus }) ∧
  (∀ (s : State) (i : Instr), s.pend = none → s.operandsDefined i = false → s.onUndef = .modelFaults →
    exec i s = .fault .undefOperand) ∧
  (∀ (p : Params) (i : Instr), p.Legal = true → exec i (State.resetOf p) = .fault .undefOperand) ∧
  (∀ (s : State) (c : Word), s.pend = none →
    (decode c = none → s.writeCommand c = .next { s with cmdreg := c, done := true, errcode := .illegalCommand }) ∧
    (∀ i, decode c = some i → encode i = c ∧ s.writeCommand c = exec i s))

/-- R173: INVALID_MODULUS is raised at issue by MODMUL, MODEXP and MODINV when N is 0, on defined operands (R107: they are
checked first), no result register or RFLAGS bit changed; EXTGCD never raises it, at issue or at completion. -/
def Obligations.ZeroModulusIsRefusedAtIssue : Prop :=
  (∀ (s : State) (i : Instr), i = .modmul ∨ i = .modexp ∨ i = .modinv → s.pend = none →
    s.operandsDefined i = true → s.val .n = 0 → ∃ t, exec i s = .next t ∧ t.errcode = .invalidModulus ∧ t.done = true ∧ t.pend = none ∧
      t.cmdreg = encode i ∧ s.SameResults t ∧ s.SameOperands t) ∧
  (∀ (s t : State) (na nb : Bool), s.pend = none ∨ s.pend = some (.extgcd na nb) → exec (.extgcd na nb) s = .next t →
    t.errcode ≠ .invalidModulus)

/-- R172: the CMD write of any word that decode maps to none, with BUSY = 0, ends with ILLEGAL_COMMAND; the word is kept in
CMDREG and nothing else of the spec's state changes. No premise on N or on definedness: legality is checked first. -/
def Obligations.IllegalWordEndsAtOnce : Prop :=
  ∀ (s : State) (c : Word) (rest : List Event),
    s.schedule = hostWR s.hw 0x010 c :: rest → s.pend = none → decode c = none →
      step s = .next { s with schedule := rest, resp := some .okay, cmdreg := c, done := true, errcode := .illegalCommand }

/-- R106: a CMD write while a command is in flight sets OVR and does nothing else. -/
def Obligations.CommandWhileBusyOnlySetsOvr : Prop :=
  ∀ (s : State) (c : Word) (rest : List Event),
    s.schedule = hostWR s.hw 0x010 c :: rest → s.pend ≠ none →
      step s = .next { s with schedule := rest, resp := some .okay, ovr := true }

/-- The model's choice (log 5, log 15; 10_state.md R46, the sentence on the hardware): in the reading in which the hardware
goes on, so does an issue that meets an UNDEF operand word. The command is in flight, or, if it uses N, has ended with
INVALID_MODULUS, for certain when N is wholly defined and 0 (log 15); CMDREG is written and the condition recorded. -/
def Obligations.UndefOperandIssueGoesOn : Prop :=
  ∀ (s : State) (i : Instr), s.pend = none → s.operandsDefined i = false → s.onUndef = .hardwareGoesOn →
    ∃ t, exec i s = .next t ∧ t.cmdreg = encode i ∧ t.undefOperand = true ∧
      ((t.pend = some i ∧ t.done = false ∧ t.errcode = .noError) ∨
        (usesModulus i = true ∧ t.pend = none ∧ t.done = true ∧ t.errcode = .invalidModulus)) ∧
      (usesModulus i = true → s.regDefined .n = true → s.val .n = 0 → t.errcode = .invalidModulus) ∧
      t = { s with cmdreg := t.cmdreg, undefOperand := t.undefOperand, pend := t.pend, done := t.done,
                   errcode := t.errcode, draws := t.draws }

/-! ### MODMUL (41_modmul.md) -/

/-- R131, R132: the completion of MODMUL writes the plain residue of the exact product, whatever RED is, for every A and B
and every N from 1 on, even N and unreduced A and B among them; EARLY is 0; nothing else changes (R130). -/
def Obligations.ModmulWritesTheResidue : Prop :=
  ∀ s : State, s.Shaped = true → s.pend = some .modmul → s.operandsDefined .modmul = true → s.val .n ≠ 0 →
    ∃ t, exec .modmul s = .next t ∧ t.val .r = s.val .a * s.val .b % s.val .n ∧ t.regDefined .r = true ∧
      t.r.length = s.hw.nw ∧ t.early = { bit := false, defined := true } ∧ t.errcode = .noError ∧ t.done = true ∧
      t.pend = none ∧
      t = { s with r := t.r, early := t.early, errcode := t.errcode, done := t.done, pend := t.pend }

/-- R133: the laws of the product that MODMUL's completion leaves in R. -/
def Obligations.ModmulLaws : Prop :=
  ∀ a b n : Nat, n ≠ 0 →
    modmulValue a b n < n ∧ modmulValue a b n = modmulValue b a n ∧
      modmulValue a b n = modmulValue (a % n) (b % n) n ∧ modmulValue 1 b n = b % n

/-! ### MODEXP (42_modexp.md) -/

/-- R142: R is `A^E mod N` (with `0^0 = 1`) for every A and E and every N from 1 on; EARLY is written, nothing else
changes (R140). -/
def Obligations.ModexpWritesThePower : Prop :=
  ∀ s : State, s.Shaped = true → s.pend = some .modexp → s.operandsDefined .modexp = true → s.val .n ≠ 0 →
    ∃ t, exec .modexp s = .next t ∧ t.val .r = s.val .a ^ s.val .e % s.val .n ∧ t.regDefined .r = true ∧
      t.r.length = s.hw.nw ∧ t.early.defined = true ∧ t.errcode = .noError ∧ t.done = true ∧ t.pend = none ∧
      t = { s with r := t.r, early := t.early, errcode := t.errcode, done := t.done, pend := t.pend }

/-- R141: EARLY is 1 exactly when the reduced base, after some number k of squarings, is 0 or 1 while the exponent, halved k
times, is not used up. -/
def Obligations.ModexpEarlyIsExact : Prop :=
  ∀ s t : State, s.pend = some .modexp → s.operandsDefined .modexp = true → s.val .n ≠ 0 →
    exec .modexp s = .next t →
      (t.early.bit = true ↔ ∃ k, s.val .e / 2 ^ k ≠ 0 ∧ s.val .a ^ 2 ^ k % s.val .n ≤ 1)

/-- R140, the algorithm itself: one turn of the loop on a nonzero exponent that leaves by neither exit, the two exits, and
the end, from any accumulator and reduced base, with the iterations that remain. -/
def Obligations.ModexpLoopUnrolls : Prop :=
  ∀ n acc b e fuel : Nat, modexpFuel e ≤ fuel →
    modexpLoop n fuel acc b e =
      if e = 0 then (acc, false)
      else if b = 0 then (0, true)
      else if b = 1 then (acc, true)
      else modexpLoop n (modexpFuel (e / 2)) (if e % 2 = 1 then acc * b % n else acc) (b * b % n) (e / 2)

/-! ### EXTGCD and MODINV (43_gcd.md) -/

/-- R153: the completion of EXTGCD writes G, X, Y and the signs from `egcd` of R151 and EARLY <- 0; it never stops on legal
register lengths, and R and everything else is unchanged. -/
def Obligations.ExtgcdWritesTheTriple : Prop :=
  ∀ (s : State) (na nb : Bool) (g : Nat) (x y : Int), s.Shaped = true → s.pend = some (.extgcd na nb) →
    s.operandsDefined (.extgcd na nb) = true → egcd (s.val .a) na (s.val .b) nb = (g, x, y) →
    ∃ t, exec (.extgcd na nb) s = .next t ∧ t.val .g = g ∧ t.val .x = x.natAbs ∧ t.val .y = y.natAbs ∧
      t.regDefined .g = true ∧ t.regDefined .x = true ∧ t.regDefined .y = true ∧
      t.xneg = { bit := decide (x < 0), defined := true } ∧ t.yneg = { bit := decide (y < 0), defined := true } ∧
      t.early = { bit := false, defined := true } ∧ t.errcode = .noError ∧ t.done = true ∧ t.pend = none ∧
      t = { s with g := t.g, x := t.x, y := t.y, xneg := t.xneg, yneg := t.yneg, early := t.early,
                   errcode := t.errcode, done := t.done, pend := t.pend }

/-- R156: after every EXTGCD completion `a*x + b*y = G` and `G = gcd(a, b)`, on the signed operands and the signed
coefficients as the registers hold them. -/
def Obligations.ExtgcdBezoutLaw : Prop :=
  ∀ (s : State) (na nb : Bool), s.Shaped = true → s.pend = some (.extgcd na nb) →
    s.operandsDefined (.extgcd na nb) = true →
    ∃ t, exec (.extgcd na nb) s = .next t ∧
      signedOperand na (s.val .a) * signedOperand t.xneg.bit (t.val .x) +
          signedOperand nb (s.val .b) * signedOperand t.yneg.bit (t.val .y) = (t.val .g : Int) ∧
      t.val .g = Int.gcd (signedOperand na (s.val .a)) (signedOperand nb (s.val .b))

/-- R152: the outputs of `egcd` are bounded, so each fits W bits. -/
def Obligations.EgcdOutputsFit : Prop :=
  ∀ (ma mb g : Nat) (x y : Int) (na nb : Bool), egcd ma na mb nb = (g, x, y) →
    g = Nat.gcd ma mb ∧ g ≤ max ma mb ∧ x.natAbs ≤ max 1 mb ∧ y.natAbs ≤ max 1 ma ∧
      ∀ w, 32 ≤ w → ma < 2 ^ w → mb < 2 ^ w → g < 2 ^ w ∧ x.natAbs < 2 ^ w ∧ y.natAbs < 2 ^ w

/-- R151, the loop itself: one division step from any remainders and coefficients, and the end. -/
def Obligations.EgcdLoopUnrolls : Prop :=
  ∀ (r0 r1 fuel : Nat) (s0 s1 t0 t1 : Int), egcdFuel r1 ≤ fuel →
    egcdLoop fuel r0 r1 s0 s1 t0 t1 =
      if r1 = 0 then (r0, s0, t0)
      else egcdLoop (egcdFuel (r0 % r1)) r1 (r0 % r1) s1 (s0 - (r0 / r1 : Nat) * s1) t1 (t0 - (r0 / r1 : Nat) * t1)

/-- R153, corner cases: zero operands and equal magnitudes. -/
def Obligations.EgcdCornerCases : Prop :=
  ∀ (na nb : Bool) (m : Nat), m ≠ 0 →
    egcd 0 na 0 nb = (0, 1, 0) ∧ egcd 0 na m nb = (m, 0, if nb then -1 else 1) ∧
      egcd m na 0 nb = (m, if na then -1 else 1, 0) ∧ egcd m na m nb = (m, 0, if nb then -1 else 1)

/-- R155: the sign bit of a zero operand has no effect on any output, and a coefficient of magnitude 0 has sign bit 0. -/
def Obligations.NegativeZeroIsZero : Prop :=
  ∀ (s : State) (na nb : Bool), s.Shaped = true → s.pend = some (.extgcd na nb) →
    s.operandsDefined (.extgcd na nb) = true →
    ∃ t, exec (.extgcd na nb) s = .next t ∧
      (s.val .a = 0 → exec (.extgcd false nb) { s with pend := some (.extgcd false nb) } = .next t) ∧
      (s.val .b = 0 → exec (.extgcd na false) { s with pend := some (.extgcd na false) } = .next t) ∧
      (t.val .x = 0 → t.xneg.bit = false) ∧ (t.val .y = 0 → t.yneg.bit = false)

/-- R160: the completion of MODINV writes G, X, Y and the signs from `egcd(A, 0, N, 0)` and EARLY <- 0; with G = 1 also
`R <- x mod N` and no error, else R is unchanged and the error is NO_MODULAR_INVERSE; nothing else changes. -/
def Obligations.ModinvWritesTheInverse : Prop :=
  ∀ (s : State) (g : Nat) (x y : Int), s.Shaped = true → s.pend = some .modinv → s.operandsDefined .modinv = true →
    s.val .n ≠ 0 → egcd (s.val .a) false (s.val .n) false = (g, x, y) →
    ∃ t, exec .modinv s = .next t ∧ t.val .g = g ∧ t.val .x = x.natAbs ∧ t.val .y = y.natAbs ∧
      t.regDefined .g = true ∧ t.regDefined .x = true ∧ t.regDefined .y = true ∧
      t.xneg = { bit := decide (x < 0), defined := true } ∧ t.yneg = { bit := decide (y < 0), defined := true } ∧
      t.early = { bit := false, defined := true } ∧ t.done = true ∧ t.pend = none ∧
      (g = 1 → (t.val .r : Int) = x % (s.val .n : Int) ∧ t.regDefined .r = true ∧ t.errcode = .noError) ∧
      (g ≠ 1 → t.r = s.r ∧ t.errcode = .noModularInverse) ∧
      t = { s with r := t.r, g := t.g, x := t.x, y := t.y, xneg := t.xneg, yneg := t.yneg, early := t.early,
                   errcode := t.errcode, done := t.done, pend := t.pend }

/-- R161: ERRCODE is 0 or 3 after MODINV; with 0 R is the inverse of A modulo N, reduced; with 3 G is the gcd and above 1;
and 3 occurs exactly when no inverse exists. -/
def Obligations.ModinvLaws : Prop :=
  ∀ s : State, s.Shaped = true → s.pend = some .modinv → s.operandsDefined .modinv = true → s.val .n ≠ 0 →
    ∃ t, exec .modinv s = .next t ∧ (t.errcode = .noError ∨ t.errcode = .noModularInverse) ∧
      (t.errcode = .noError → s.val .a * t.val .r % s.val .n = 1 % s.val .n ∧ t.val .r < s.val .n) ∧
      (t.errcode = .noModularInverse → t.val .g = Nat.gcd (s.val .a) (s.val .n) ∧ 1 < t.val .g) ∧
      (t.errcode = .noModularInverse ↔ ¬ ∃ v, s.val .a * v % s.val .n = 1 % s.val .n)

/-- R174: NO_MODULAR_INVERSE is raised at completion by MODINV when gcd(A, N) is not 1: G, X, Y and the signs are written,
EARLY is 0, R is unchanged. EXTGCD never raises it. -/
def Obligations.NoModularInverseIsRaisedByModinvOnly : Prop :=
  (∀ s : State, s.Shaped = true → s.pend = some .modinv → s.operandsDefined .modinv = true → s.val .n ≠ 0 →
    Nat.gcd (s.val .a) (s.val .n) ≠ 1 →
    ∃ t, exec .modinv s = .next t ∧ t.errcode = .noModularInverse ∧ t.done = true ∧ t.pend = none ∧ t.r = s.r ∧
      t.val .g = Nat.gcd (s.val .a) (s.val .n) ∧ t.regDefined .x = true ∧ t.regDefined .y = true ∧
      (s.val .a : Int) * signedOperand t.xneg.bit (t.val .x) + (s.val .n : Int) * signedOperand t.yneg.bit (t.val .y) =
        (t.val .g : Int) ∧
      t.xneg.defined = true ∧ t.yneg.defined = true ∧ t.early = { bit := false, defined := true }) ∧
  (∀ (s t : State) (na nb : Bool), s.pend = none ∨ s.pend = some (.extgcd na nb) → exec (.extgcd na nb) s = .next t →
    t.errcode ≠ .noModularInverse)

/-! ### Completions in general (40_command.md 3) -/

/-- The model's choice (log 16; 10_state.md R46, the sentence on the hardware): a completion on UNDEF operands, which only an
issue that went on leads to (log 5), goes on, with free results. It ends the command as any completion does and writes the
command's own registers and flags, all defined, and no others. What the spec computes from a free result follows from it:
MODINV's error and its write of R from G, a sign bit 0 from a zero coefficient. EARLY is 0 but for MODEXP. -/
def Obligations.UndefOperandCompletionGoesOn : Prop :=
  ∀ (s : State) (i : Instr), s.pend = some i → s.operandsDefined i = false →
    ∃ t, exec i s = .next t ∧ t.done = true ∧ t.pend = none ∧ t.early.defined = true ∧
      (i ≠ .modexp → t.early.bit = false) ∧
      (t.errcode = .noError ∨ (i = .modinv ∧ t.errcode = .noModularInverse)) ∧
      (i = .modinv → (t.val .g = 1 ↔ t.errcode = .noError) ∧ (t.val .g = 1 → t.regDefined .r = true) ∧
        (t.val .g ≠ 1 → t.r = s.r)) ∧
      (i = .modmul ∨ i = .modexp → t.regDefined .r = true ∧
        t = { s with r := t.r, early := t.early, errcode := t.errcode, done := t.done, pend := t.pend,
                     draws := t.draws }) ∧
      (i ≠ .modmul → i ≠ .modexp → t.regDefined .g = true ∧ t.regDefined .x = true ∧ t.regDefined .y = true ∧
        t.xneg.defined = true ∧ t.yneg.defined = true ∧ (t.val .x = 0 → t.xneg.bit = false) ∧
        (t.val .y = 0 → t.yneg.bit = false) ∧ (i ≠ .modinv → t.r = s.r) ∧
        t = { s with r := t.r, g := t.g, x := t.x, y := t.y, xneg := t.xneg, yneg := t.yneg, early := t.early,
                     errcode := t.errcode, done := t.done, pend := t.pend, draws := t.draws })

/-- R41, last sentence but two: no command writes an operand register, at issue, at completion or dropped; nor IE, WBUSY, the
parameters or the reading of R46 (log 5). -/
def Obligations.NoCommandWritesAnOperand : Prop :=
  ∀ (s t : State) (i : Instr), exec i s = .next t →
    s.SameOperands t ∧ t.ie = s.ie ∧ t.wbusy = s.wbusy ∧ t.hw = s.hw ∧ t.onUndef = s.onUndef ∧
      t.schedule = s.schedule ∧ t.resp = s.resp

/-- R7, R111: no result depends on RED. On hardware that differs in RED only, each command answers the same. -/
def Obligations.ReductionMethodIsInvisible : Prop :=
  ∀ (s : State) (i : Instr) (red : Reduction),
    exec i { s with hw := { s.hw with red := red } } =
      match exec i s with
      | .next t => .next { t with hw := { t.hw with red := red } }
      | .fault f => .fault f
      | .refused q => .refused q

/-- R45, R109, R110: transactions between issue and completion do not change a result. With any quiet transactions first
(none resets), the completion leaves the results, flags and error code it leaves when it comes at once, and the operands and
CMDREG as they were. -/
def Obligations.TransactionsDoNotDisturbACommand : Prop :=
  ∀ (s : State) (i : Instr) (evs rest : List Event), s.Inv = true → s.pend = some i → s.operandsDefined i = true →
    evs.all (isQuiet s.hw) = true → s.schedule = evs ++ .complete :: rest →
    ∃ t u, exec i s = .next t ∧ Host.Core.run core (evs.length + 1) s = .next u ∧
      u.SameResults t ∧ u.SameOperands s ∧ u.errcode = t.errcode ∧ u.done = true ∧ u.pend = none ∧
      u.cmdreg = s.cmdreg ∧ u.schedule = rest

/-- R95 with R104, R110 and R142: issuing MODEXP and letting it complete is `fastExponentiation`: R holds `A^E mod N`,
BUSY is 0, DONE is 1 and ERRCODE is 0. -/
def Obligations.ModexpRunsFromIssueToResult : Prop :=
  ∀ (s : State) (rest : List Event), s.Shaped = true → s.pend = none → s.operandsDefined .modexp = true →
    s.val .n ≠ 0 → s.schedule = hostIssue s.hw .modexp :: .complete :: rest →
    ∃ t, Host.Core.run core 2 s = .next t ∧ t.val .r = s.val .a ^ s.val .e % s.val .n ∧ t.regDefined .r = true ∧
      t.busy = false ∧ t.done = true ∧ t.errcode = .noError ∧ t.cmdreg = 0x00000002#32 ∧ t.schedule = rest

/-! ### The register port (10_state.md, 20_memory.md, 40_command.md 2) -/

/-- R21, R40: the window bases, and every slot of every window at its offset. -/
def Obligations.AddressMapOfWindows : Prop :=
  (∀ (q : Reg) (k : Nat), k < 256 → target (slotOffset q k) = .slot q k) ∧
    slotOffset .a 0 = 0x0400 ∧ slotOffset .b 0 = 0x0800 ∧ slotOffset .e 0 = 0x0C00 ∧ slotOffset .n 0 = 0x1000 ∧
    slotOffset .r 0 = 0x1400 ∧ slotOffset .g 0 = 0x1800 ∧ slotOffset .x 0 = 0x1C00 ∧ slotOffset .y 0 = 0x2000

/-- R64, R65: an access of another size, an unaligned one and an aligned one to a reserved offset are answered SLVERR and
change no state. -/
def Obligations.RefusedAccessHasNoEffect : Prop :=
  ∀ (s : State) (off size : Nat) (d : Word) (rest : List Event), off < 0x4000 →
    size ≠ 4 ∨ off % 4 ≠ 0 ∨ (0x018 ≤ off ∧ off ≤ 0x3FC) ∨ 0x2400 ≤ off →
    (s.schedule = .read (s.hw.base + off) size :: rest →
      step s = .next { s with schedule := rest, resp := some .slverr }) ∧
    (s.schedule = .write (s.hw.base + off) size d :: rest →
      step s = .next { s with schedule := rest, resp := some .slverr })

/-- R63: an aligned 32-bit access to a mapped offset is accepted: a read is answered with data, a write with OKAY. The one
write that is not answered is the issue at which the model faults (R104, log 5). -/
def Obligations.AlignedMappedAccessIsAccepted : Prop :=
  ∀ (s : State) (off : Nat) (d : Word) (rest : List Event), off % 4 = 0 →
    off < 0x018 ∨ (0x400 ≤ off ∧ off < 0x2400) →
    (s.schedule = hostRD s.hw off :: rest → ∃ t w, step s = .next t ∧ t.resp = some (.data w)) ∧
    (s.schedule = hostWR s.hw off d :: rest → (off = 0x010 → s.faultsAtIssue d = false) →
      ∃ t, step s = .next t ∧ t.resp = some .okay)

/-- R66: a read, of any address of the aperture and any size, changes nothing of the spec's state. -/
def Obligations.ReadsHaveNoSideEffects : Prop :=
  ∀ (s : State) (addr size : Nat) (rest : List Event), inAperture s.hw addr = true →
    s.schedule = .read addr size :: rest →
    ∃ t, step s = .next t ∧ t = { s with schedule := rest, resp := t.resp, draws := t.draws }

/-- R23, R24: ID and HWCFG read as their constants, and ignore writes with OKAY. -/
def Obligations.IdAndHwcfgAreConstant : Prop :=
  ∀ (s : State) (d : Word) (rest : List Event), s.Shaped = true →
    (s.schedule = hostRD s.hw 0x000 :: rest → ∃ t, step s = .next t ∧ t.resp = some (.data 0x52534131#32)) ∧
    (s.schedule = hostRD s.hw 0x004 :: rest → ∃ t w, step s = .next t ∧ t.resp = some (.data w) ∧
      (w.extractLsb' 0 16).toNat = s.hw.nw ∧
      w.extractLsb' 16 2 = (if s.hw.red = .montgomery then 0#2 else 1#2) ∧ w.extractLsb' 18 14 = 0#14) ∧
    (s.schedule = hostWR s.hw 0x000 d :: rest ∨ s.schedule = hostWR s.hw 0x004 d :: rest →
      step s = .next { s with schedule := rest, resp := some .okay })

/-- R27: a CTRL write with SRST = 0 writes IE from bit 0 and does nothing else, in flight or not; a read returns IE
zero-extended. -/
def Obligations.CtrlWritesAndReadsIe : Prop :=
  ∀ (s : State) (d : Word) (rest : List Event),
    (s.schedule = hostWR s.hw 0x008 d :: rest → d.getLsbD 1 = false →
      step s = .next { s with schedule := rest, resp := some .okay, ie := d.getLsbD 0 }) ∧
    (s.schedule = hostRD s.hw 0x008 :: rest → ∃ t, step s = .next t ∧
      t.resp = some (.data (if s.ie then 0x00000001#32 else 0x00000000#32)))

/-- R34: a STATUS write clears DONE, OVR and WBUSY where its bit is 1 and does nothing else, in flight or not; a read
returns the fields in their places and 0 in every other bit. ERR is 1 exactly when ERRCODE is not 0 (R30). -/
def Obligations.StatusReadsAndAcknowledges : Prop :=
  ∀ (s : State) (d : Word) (rest : List Event),
    (s.schedule = hostWR s.hw 0x00C d :: rest →
      step s = .next { s with
        schedule := rest, resp := some .okay,
        done := if d.getLsbD 1 then false else s.done,
        ovr := if d.getLsbD 16 then false else s.ovr,
        wbusy := if d.getLsbD 17 then false else s.wbusy }) ∧
    (s.schedule = hostRD s.hw 0x00C :: rest → ∃ t w, step s = .next t ∧ t.resp = some (.data w) ∧
      w.getLsbD 0 = s.pend.isSome ∧ w.getLsbD 1 = s.done ∧ w.getLsbD 2 = decide (s.errcode ≠ .noError) ∧
      w.getLsbD 3 = false ∧
      (w.extractLsb' 4 4).toNat =
        (match s.errcode with | .noError => 0 | .illegalCommand => 1 | .invalidModulus => 2 | .noModularInverse => 3) ∧
      w.extractLsb' 8 8 = 0#8 ∧ w.getLsbD 16 = s.ovr ∧ w.getLsbD 17 = s.wbusy ∧ w.extractLsb' 18 14 = 0#14)

/-- R35: a CMD write made while BUSY = 0 sets CMDREG to its word, legal or not (where the model faults there is no next state,
log 5); one made while BUSY = 1 does not change it; no other step but a reset changes it; a read returns it; its reset value
is 0, an illegal command. -/
def Obligations.CmdReadsBackTheLastAcceptedWord : Prop :=
  (∀ (s : State) (c : Word) (rest : List Event), s.schedule = hostWR s.hw 0x010 c :: rest →
    s.faultsAtIssue c = false → ∃ t, step s = .next t ∧ t.cmdreg = if s.busy then s.cmdreg else c) ∧
  (∀ s t : State, step s = .next t → isReset s.hw s.nextEvent = false →
    ¬ (s.busy = false ∧ isCommandWrite s.hw s.nextEvent = true) → t.cmdreg = s.cmdreg) ∧
  (∀ (s : State) (rest : List Event), s.schedule = hostRD s.hw 0x010 :: rest →
    ∃ t, step s = .next t ∧ t.resp = some (.data s.cmdreg)) ∧
  State.reset.cmdreg = 0x00000000#32 ∧ decode 0x00000000#32 = none

/-- R39: RFLAGS reads each defined bit in its place while BUSY = 0, and 0 in bits [31:3]; writes are ignored with OKAY.
Nothing is said of an UNDEF bit, nor of bits [2:0] while BUSY = 1: they are UNSPEC. That bits [31:3] are 0 while BUSY = 1 too
is the model's reading (log 3): R101's pseudocode has UNSPEC for the whole word there. -/
def Obligations.RflagsReadsItsBits : Prop :=
  ∀ (s : State) (d : Word) (rest : List Event),
    (s.schedule = hostRD s.hw 0x014 :: rest → ∃ t w, step s = .next t ∧ t.resp = some (.data w) ∧
      w.extractLsb' 3 29 = 0#29 ∧
      (s.busy = false → (s.xneg.defined = true → w.getLsbD 0 = s.xneg.bit) ∧
        (s.yneg.defined = true → w.getLsbD 1 = s.yneg.bit) ∧ (s.early.defined = true → w.getLsbD 2 = s.early.bit))) ∧
    (s.schedule = hostWR s.hw 0x014 d :: rest → step s = .next { s with schedule := rest, resp := some .okay })

/-- R102: a write to a slot of an operand window does nothing from slot NW on; while BUSY it sets WBUSY only; else the word
is written and becomes defined, every other word and register as it was. OKAY in every case. -/
def Obligations.OperandWindowWrite : Prop :=
  ∀ (s : State) (q : Reg) (k : Nat) (d : Word) (rest : List Event), s.Shaped = true → k < 256 →
    q = .a ∨ q = .b ∨ q = .e ∨ q = .n → s.schedule = hostWR s.hw (slotOffset q k) d :: rest →
    ∃ t, step s = .next t ∧
      if s.hw.nw ≤ k then t = { s with schedule := rest, resp := some .okay }
      else if s.busy then t = { s with schedule := rest, resp := some .okay, wbusy := true }
      else (∀ j, (t.reg q)[j]? = if j = k then some { bits := d, defined := true } else (s.reg q)[j]?) ∧
        (∀ q', q' ≠ q → t.reg q' = s.reg q') ∧
        t = { s with schedule := rest, resp := some .okay, a := t.a, b := t.b, e := t.e, n := t.n }

/-- R40, R41, R42, R46: a read of a slot below NW returns the register's word there, bits [32k+31:32k] of its value, if that
word is defined: of an operand register at every time, of a result register while BUSY = 0. -/
def Obligations.WindowSlotReadsItsWord : Prop :=
  ∀ (s : State) (q : Reg) (k : Nat) (w : DataWord) (rest : List Event), s.Shaped = true → k < s.hw.nw →
    (s.reg q)[k]? = some w → w.defined = true →
    s.busy = false ∨ q = .a ∨ q = .b ∨ q = .e ∨ q = .n → s.schedule = hostRD s.hw (slotOffset q k) :: rest →
    ∃ t, step s = .next t ∧ t.resp = some (.data w.bits) ∧ w.bits = BitVec.ofNat 32 (s.val q / 2 ^ (32 * k))

/-- R43: a slot from NW on, in any window, reads 0 and ignores writes, with OKAY, and never sets WBUSY. -/
def Obligations.SlotsFromNwOnAreRazWi : Prop :=
  ∀ (s : State) (q : Reg) (k : Nat) (d : Word) (rest : List Event), s.hw.nw ≤ k → k < 256 →
    (s.schedule = hostRD s.hw (slotOffset q k) :: rest →
      ∃ t, step s = .next t ∧ t.resp = some (.data 0x00000000#32)) ∧
    (s.schedule = hostWR s.hw (slotOffset q k) d :: rest →
      step s = .next { s with schedule := rest, resp := some .okay })

/-- R42: a host write to a result register is ignored with OKAY. -/
def Obligations.ResultWindowsIgnoreWrites : Prop :=
  ∀ (s : State) (q : Reg) (k : Nat) (d : Word) (rest : List Event), q = .r ∨ q = .g ∨ q = .x ∨ q = .y → k < 256 →
    s.schedule = hostWR s.hw (slotOffset q k) d :: rest →
    step s = .next { s with schedule := rest, resp := some .okay }

/-- R95, LOAD: on an idle block the NW writes of LOAD leave the value in the register, every word defined, every other
register as it was. -/
def Obligations.LoadWritesTheWholeRegister : Prop :=
  ∀ (s : State) (q : Reg) (v : Nat) (rest : List Event), s.Shaped = true → s.pend = none →
    q = .a ∨ q = .b ∨ q = .e ∨ q = .n → v < 2 ^ s.hw.width → s.schedule = hostLoad s.hw q v ++ rest →
    ∃ t, Host.Core.run core s.hw.nw s = .next t ∧ t.val q = v ∧ t.regDefined q = true ∧
      (∀ q', q' ≠ q → t.reg q' = s.reg q') ∧
      t = { s with schedule := rest, resp := some .okay, a := t.a, b := t.b, e := t.e, n := t.n }

/-! ### Interrupt, reset and errors of the port (60_exceptions.md, 70_reset_and_hazards.md) -/

/-- R47, R180: IRQ is IE AND DONE. When a command ends, at completion or at issue, it is IE; when IE is set it is DONE;
acknowledging DONE, clearing IE, a successful issue and either reset make it fall. -/
def Obligations.InterruptFollowsIeAndDone : Prop :=
  (∀ s : State, s.irq = true ↔ s.ie = true ∧ s.done = true) ∧
  (∀ (s t : State) (i : Instr), s.pend = some i → exec i s = .next t → t.irq = s.ie) ∧
  (∀ (s t : State), step s = .next t → isCommandWrite s.hw s.nextEvent = true → s.busy = false → t.busy = false →
    t.irq = s.ie) ∧
  (∀ (s t : State), step s = .next t →
    isWriteTo s.hw .ctrl (fun d => !d.getLsbD 1 && d.getLsbD 0) s.nextEvent = true → t.irq = s.done) ∧
  (∀ (s t : State), step s = .next t →
    isStatusClear s.hw 1 s.nextEvent = true ∨ isReset s.hw s.nextEvent = true ∨
      isWriteTo s.hw .ctrl (fun d => !d.getLsbD 0) s.nextEvent = true ∨
      (isCommandWrite s.hw s.nextEvent = true ∧ s.busy = false ∧ t.busy = true) →
    t.irq = false)

/-- R49: after hard reset every piece of state holds the table's value, for every W, BASE and RED; State.reset is
one of them; STATUS, CTRL and CMD read 0 and IRQ is 0. -/
def Obligations.ResetTable : Prop :=
  (∀ p : Params, (State.resetOf p).AtReset ∧ (State.resetOf p).hw = p ∧ (State.resetOf p).irq = false ∧
    (State.resetOf p).statusWord = 0x00000000#32 ∧ (State.resetOf p).ctrlWord = 0x00000000#32) ∧
  State.reset.AtReset

/-- R200: hard reset puts every piece of state in its reset value, discards a command in flight without completion and
without DONE, and leaves IRQ 0. -/
def Obligations.HardResetStep : Prop :=
  ∀ (s : State) (rest : List Event), s.schedule = .hardReset :: rest →
    ∃ t, step s = .next t ∧ t.AtReset ∧ t.hw = s.hw ∧ t.irq = false ∧ t.schedule = rest

/-- R202: a CTRL write with bit 1 set has the effect of hard reset, whatever its other bits are, in flight or not, and gets
OKAY. -/
def Obligations.SoftResetStep : Prop :=
  ∀ (s : State) (d : Word) (rest : List Event), s.schedule = hostWR s.hw 0x008 d :: rest → d.getLsbD 1 = true →
    ∃ t u, step s = .next t ∧ t.AtReset ∧ t.resp = some .okay ∧
      step { s with schedule := .hardReset :: rest } = .next u ∧ t = { u with resp := some .okay }

/-- The model's choice (log 11; 20_memory.md R60): a transaction outside the aperture stops the model, by its name. -/
def Obligations.OutsideApertureFaults : Prop :=
  ∀ s : State, eventInAperture s.hw s.nextEvent = false → step s = .fault .outsideAperture

/-- R178: nothing else stops the machine. From the invariant a step whose transaction, if it is one, lies in the aperture
faults exactly at an issue on an UNDEF operand word, where the spec has a model fault (R46, R104, I3); any other answers a
next state: no command overflows, divides by zero or is refused. That the issue and the completion on UNDEF operands go on in
the reading in which the hardware goes on is the model's choice (log 5, log 16). -/
def Obligations.NothingElseStops : Prop :=
  ∀ s : State, s.Inv = true → eventInAperture s.hw s.nextEvent = true →
    (s.faultsNext = true → step s = .fault .undefOperand) ∧ (s.faultsNext = false → ∃ t, step s = .next t)

/-! ### Whole-machine rules -/

/-- The reset state of every legal configuration has the invariant, and so has State.reset. -/
def Obligations.ResetHasTheInvariant : Prop :=
  (∀ p : Params, p.Legal = true → (State.resetOf p).Inv = true) ∧ State.reset.Inv = true

/-- Every step keeps the invariant: legal parameters, NW words in each register (R5, R9); in flight, DONE and ERRCODE are 0,
CMDREG is the command's word, a defined modulus is not 0 (R31, R35, R104) and, where the model faults on them (R46), no
operand word is UNDEF; a zero coefficient has sign 0 (R36, R37). On UNDEF operands, in the reading in which the hardware goes
on, it rests on the model's choices (log 5, log 15, log 16). -/
def Obligations.EveryStepKeepsTheInvariant : Prop :=
  ∀ s t : State, s.Inv = true → step s = .next t → t.Inv = true

/-- R5 to R7: W, BASE and RED are constants; so is the model's own reading of R46 (log 5). -/
def Obligations.ParametersNeverChange : Prop :=
  ∀ s t : State, step s = .next t → t.hw = s.hw ∧ t.onUndef = s.onUndef

/-- R41, R102: an operand register changes only by an accepted write to its window while BUSY = 0, or by a reset. -/
def Obligations.OnlyWindowWritesChangeOperands : Prop :=
  ∀ s t : State, step s = .next t → ¬ s.SameOperands t →
    (s.busy = false ∧ isOperandWrite s.hw s.nextEvent = true) ∨ isReset s.hw s.nextEvent = true

/-- R42, R45: only the completion of a command in flight, or a reset, changes a result register or a bit of RFLAGS. -/
def Obligations.OnlyCompletionChangesResults : Prop :=
  ∀ s t : State, step s = .next t → ¬ s.SameResults t →
    (s.busy = true ∧ s.nextEvent = .complete) ∨ isReset s.hw s.nextEvent = true

/-- R28, R109: BUSY falls only by completion or reset, and rises only by a CMD write of a legal word made while it is 0. -/
def Obligations.BusyRisesAtIssueAndFallsAtEnd : Prop :=
  ∀ s t : State, step s = .next t →
    (s.busy = true → t.busy = false → s.nextEvent = .complete ∨ isReset s.hw s.nextEvent = true) ∧
    (s.busy = false → t.busy = true →
      isWriteTo s.hw .cmd (fun c => (decode c).isSome) s.nextEvent = true ∧ t.pend = decode t.cmdreg)

/-- R29, R31, R105, R110: DONE is set, and ERRCODE changed, only by the end or the issue of a command, or by a reset; a
STATUS write is the one other thing that clears DONE. -/
def Obligations.OnlyCommandsWriteDoneAndErrcode : Prop :=
  ∀ s t : State, step s = .next t →
    isReset s.hw s.nextEvent = false → ¬ (s.busy = true ∧ s.nextEvent = .complete) →
    ¬ (s.busy = false ∧ isCommandWrite s.hw s.nextEvent = true) →
      t.errcode = s.errcode ∧ (t.done = true → s.done = true) ∧
        (isStatusClear s.hw 1 s.nextEvent = false → t.done = s.done)

/-- R32, R33: OVR and WBUSY are sticky. Each is set only by its violation and cleared only by its W1C bit or a reset, which
leaves both 0. -/
def Obligations.StickyBits : Prop :=
  ∀ s t : State, step s = .next t →
    (isReset s.hw s.nextEvent = true → t.ovr = false ∧ t.wbusy = false) ∧
    (isReset s.hw s.nextEvent = false →
      (t.ovr = true ↔ (s.busy = true ∧ isCommandWrite s.hw s.nextEvent = true) ∨
        (s.ovr = true ∧ isStatusClear s.hw 16 s.nextEvent = false)) ∧
      (t.wbusy = true ↔ (s.busy = true ∧ isOperandWrite s.hw s.nextEvent = true) ∨
        (s.wbusy = true ∧ isStatusClear s.hw 17 s.nextEvent = false)))

/-- R25, R110: IE is changed by a CTRL write or a hard reset, and by nothing else. -/
def Obligations.OnlyCtrlWritesChangeIe : Prop :=
  ∀ s t : State, step s = .next t → t.ie ≠ s.ie →
    isWriteTo s.hw .ctrl (fun _ => true) s.nextEvent = true ∨ s.nextEvent = .hardReset

/-- The model's own record of R104's definedness check (log 5): it is set by the CMD write of a legal command with an UNDEF
operand word made while BUSY = 0, where the machine goes on, and by nothing else. -/
def Obligations.UndefOperandIsRecordedAtIssueOnly : Prop :=
  ∀ s t : State, step s = .next t → s.Loaded = true →
    (t.Loaded = false ↔ s.busy = false ∧ isWriteTo s.hw .cmd s.operandUndef s.nextEvent = true)
end

