-- ==== Sys2Proof/Laws/State.lean ====
section
/-!
SUPPORT. One lemma for each field of State under each named update, true by rfl, so that no later proof unfolds an update.
-/

namespace Sys2Proof.Machine

/-! ### The end of a command (R171) -/

@[simp] theorem State.endCommand_hw (s : State) (code : ErrorCode) : (s.endCommand code).hw = s.hw := rfl
@[simp] theorem State.endCommand_ie (s : State) (code : ErrorCode) : (s.endCommand code).ie = s.ie := rfl
@[simp] theorem State.endCommand_done (s : State) (code : ErrorCode) : (s.endCommand code).done = true := rfl
@[simp] theorem State.endCommand_errcode (s : State) (code : ErrorCode) : (s.endCommand code).errcode = code := rfl
@[simp] theorem State.endCommand_ovr (s : State) (code : ErrorCode) : (s.endCommand code).ovr = s.ovr := rfl
@[simp] theorem State.endCommand_wbusy (s : State) (code : ErrorCode) : (s.endCommand code).wbusy = s.wbusy := rfl
@[simp] theorem State.endCommand_cmdreg (s : State) (code : ErrorCode) : (s.endCommand code).cmdreg = s.cmdreg := rfl
@[simp] theorem State.endCommand_xneg (s : State) (code : ErrorCode) : (s.endCommand code).xneg = s.xneg := rfl
@[simp] theorem State.endCommand_yneg (s : State) (code : ErrorCode) : (s.endCommand code).yneg = s.yneg := rfl
@[simp] theorem State.endCommand_early (s : State) (code : ErrorCode) : (s.endCommand code).early = s.early := rfl
@[simp] theorem State.endCommand_a (s : State) (code : ErrorCode) : (s.endCommand code).a = s.a := rfl
@[simp] theorem State.endCommand_b (s : State) (code : ErrorCode) : (s.endCommand code).b = s.b := rfl
@[simp] theorem State.endCommand_e (s : State) (code : ErrorCode) : (s.endCommand code).e = s.e := rfl
@[simp] theorem State.endCommand_n (s : State) (code : ErrorCode) : (s.endCommand code).n = s.n := rfl
@[simp] theorem State.endCommand_r (s : State) (code : ErrorCode) : (s.endCommand code).r = s.r := rfl
@[simp] theorem State.endCommand_g (s : State) (code : ErrorCode) : (s.endCommand code).g = s.g := rfl
@[simp] theorem State.endCommand_x (s : State) (code : ErrorCode) : (s.endCommand code).x = s.x := rfl
@[simp] theorem State.endCommand_y (s : State) (code : ErrorCode) : (s.endCommand code).y = s.y := rfl
@[simp] theorem State.endCommand_pend (s : State) (code : ErrorCode) : (s.endCommand code).pend = none := rfl
@[simp] theorem State.endCommand_schedule (s : State) (code : ErrorCode) : (s.endCommand code).schedule = s.schedule := rfl
@[simp] theorem State.endCommand_resp (s : State) (code : ErrorCode) : (s.endCommand code).resp = s.resp := rfl
@[simp] theorem State.endCommand_draws (s : State) (code : ErrorCode) : (s.endCommand code).draws = s.draws := rfl
@[simp] theorem State.endCommand_onUndef (s : State) (code : ErrorCode) : (s.endCommand code).onUndef = s.onUndef := rfl
@[simp] theorem State.endCommand_undefOperand (s : State) (code : ErrorCode) : (s.endCommand code).undefOperand = s.undefOperand := rfl

/-! ### Accepting a CMD write (R104) -/

@[simp] theorem State.acceptCommand_hw (s : State) (c : Word) : (s.acceptCommand c).hw = s.hw := rfl
@[simp] theorem State.acceptCommand_ie (s : State) (c : Word) : (s.acceptCommand c).ie = s.ie := rfl
@[simp] theorem State.acceptCommand_done (s : State) (c : Word) : (s.acceptCommand c).done = false := rfl
@[simp] theorem State.acceptCommand_errcode (s : State) (c : Word) : (s.acceptCommand c).errcode = .noError := rfl
@[simp] theorem State.acceptCommand_ovr (s : State) (c : Word) : (s.acceptCommand c).ovr = s.ovr := rfl
@[simp] theorem State.acceptCommand_wbusy (s : State) (c : Word) : (s.acceptCommand c).wbusy = s.wbusy := rfl
@[simp] theorem State.acceptCommand_cmdreg (s : State) (c : Word) : (s.acceptCommand c).cmdreg = c := rfl
@[simp] theorem State.acceptCommand_xneg (s : State) (c : Word) : (s.acceptCommand c).xneg = s.xneg := rfl
@[simp] theorem State.acceptCommand_yneg (s : State) (c : Word) : (s.acceptCommand c).yneg = s.yneg := rfl
@[simp] theorem State.acceptCommand_early (s : State) (c : Word) : (s.acceptCommand c).early = s.early := rfl
@[simp] theorem State.acceptCommand_a (s : State) (c : Word) : (s.acceptCommand c).a = s.a := rfl
@[simp] theorem State.acceptCommand_b (s : State) (c : Word) : (s.acceptCommand c).b = s.b := rfl
@[simp] theorem State.acceptCommand_e (s : State) (c : Word) : (s.acceptCommand c).e = s.e := rfl
@[simp] theorem State.acceptCommand_n (s : State) (c : Word) : (s.acceptCommand c).n = s.n := rfl
@[simp] theorem State.acceptCommand_r (s : State) (c : Word) : (s.acceptCommand c).r = s.r := rfl
@[simp] theorem State.acceptCommand_g (s : State) (c : Word) : (s.acceptCommand c).g = s.g := rfl
@[simp] theorem State.acceptCommand_x (s : State) (c : Word) : (s.acceptCommand c).x = s.x := rfl
@[simp] theorem State.acceptCommand_y (s : State) (c : Word) : (s.acceptCommand c).y = s.y := rfl
@[simp] theorem State.acceptCommand_pend (s : State) (c : Word) : (s.acceptCommand c).pend = s.pend := rfl
@[simp] theorem State.acceptCommand_schedule (s : State) (c : Word) : (s.acceptCommand c).schedule = s.schedule := rfl
@[simp] theorem State.acceptCommand_resp (s : State) (c : Word) : (s.acceptCommand c).resp = s.resp := rfl
@[simp] theorem State.acceptCommand_draws (s : State) (c : Word) : (s.acceptCommand c).draws = s.draws := rfl
@[simp] theorem State.acceptCommand_onUndef (s : State) (c : Word) : (s.acceptCommand c).onUndef = s.onUndef := rfl
@[simp] theorem State.acceptCommand_undefOperand (s : State) (c : Word) : (s.acceptCommand c).undefOperand = s.undefOperand := rfl

/-! ### A successful issue (R104) -/

@[simp] theorem State.startCommand_hw (s : State) (i : Instr) : (s.startCommand i).hw = s.hw := rfl
@[simp] theorem State.startCommand_ie (s : State) (i : Instr) : (s.startCommand i).ie = s.ie := rfl
@[simp] theorem State.startCommand_done (s : State) (i : Instr) : (s.startCommand i).done = s.done := rfl
@[simp] theorem State.startCommand_errcode (s : State) (i : Instr) : (s.startCommand i).errcode = s.errcode := rfl
@[simp] theorem State.startCommand_ovr (s : State) (i : Instr) : (s.startCommand i).ovr = s.ovr := rfl
@[simp] theorem State.startCommand_wbusy (s : State) (i : Instr) : (s.startCommand i).wbusy = s.wbusy := rfl
@[simp] theorem State.startCommand_cmdreg (s : State) (i : Instr) : (s.startCommand i).cmdreg = s.cmdreg := rfl
@[simp] theorem State.startCommand_xneg (s : State) (i : Instr) : (s.startCommand i).xneg = s.xneg := rfl
@[simp] theorem State.startCommand_yneg (s : State) (i : Instr) : (s.startCommand i).yneg = s.yneg := rfl
@[simp] theorem State.startCommand_early (s : State) (i : Instr) : (s.startCommand i).early = s.early := rfl
@[simp] theorem State.startCommand_a (s : State) (i : Instr) : (s.startCommand i).a = s.a := rfl
@[simp] theorem State.startCommand_b (s : State) (i : Instr) : (s.startCommand i).b = s.b := rfl
@[simp] theorem State.startCommand_e (s : State) (i : Instr) : (s.startCommand i).e = s.e := rfl
@[simp] theorem State.startCommand_n (s : State) (i : Instr) : (s.startCommand i).n = s.n := rfl
@[simp] theorem State.startCommand_r (s : State) (i : Instr) : (s.startCommand i).r = s.r := rfl
@[simp] theorem State.startCommand_g (s : State) (i : Instr) : (s.startCommand i).g = s.g := rfl
@[simp] theorem State.startCommand_x (s : State) (i : Instr) : (s.startCommand i).x = s.x := rfl
@[simp] theorem State.startCommand_y (s : State) (i : Instr) : (s.startCommand i).y = s.y := rfl
@[simp] theorem State.startCommand_pend (s : State) (i : Instr) : (s.startCommand i).pend = some i := rfl
@[simp] theorem State.startCommand_schedule (s : State) (i : Instr) : (s.startCommand i).schedule = s.schedule := rfl
@[simp] theorem State.startCommand_resp (s : State) (i : Instr) : (s.startCommand i).resp = s.resp := rfl
@[simp] theorem State.startCommand_draws (s : State) (i : Instr) : (s.startCommand i).draws = s.draws := rfl
@[simp] theorem State.startCommand_onUndef (s : State) (i : Instr) : (s.startCommand i).onUndef = s.onUndef := rfl
@[simp] theorem State.startCommand_undefOperand (s : State) (i : Instr) : (s.startCommand i).undefOperand = s.undefOperand := rfl

/-! ### A dropped CMD write (R106) -/

@[simp] theorem State.dropCommand_hw (s : State) : (s.dropCommand).hw = s.hw := rfl
@[simp] theorem State.dropCommand_ie (s : State) : (s.dropCommand).ie = s.ie := rfl
@[simp] theorem State.dropCommand_done (s : State) : (s.dropCommand).done = s.done := rfl
@[simp] theorem State.dropCommand_errcode (s : State) : (s.dropCommand).errcode = s.errcode := rfl
@[simp] theorem State.dropCommand_ovr (s : State) : (s.dropCommand).ovr = true := rfl
@[simp] theorem State.dropCommand_wbusy (s : State) : (s.dropCommand).wbusy = s.wbusy := rfl
@[simp] theorem State.dropCommand_cmdreg (s : State) : (s.dropCommand).cmdreg = s.cmdreg := rfl
@[simp] theorem State.dropCommand_xneg (s : State) : (s.dropCommand).xneg = s.xneg := rfl
@[simp] theorem State.dropCommand_yneg (s : State) : (s.dropCommand).yneg = s.yneg := rfl
@[simp] theorem State.dropCommand_early (s : State) : (s.dropCommand).early = s.early := rfl
@[simp] theorem State.dropCommand_a (s : State) : (s.dropCommand).a = s.a := rfl
@[simp] theorem State.dropCommand_b (s : State) : (s.dropCommand).b = s.b := rfl
@[simp] theorem State.dropCommand_e (s : State) : (s.dropCommand).e = s.e := rfl
@[simp] theorem State.dropCommand_n (s : State) : (s.dropCommand).n = s.n := rfl
@[simp] theorem State.dropCommand_r (s : State) : (s.dropCommand).r = s.r := rfl
@[simp] theorem State.dropCommand_g (s : State) : (s.dropCommand).g = s.g := rfl
@[simp] theorem State.dropCommand_x (s : State) : (s.dropCommand).x = s.x := rfl
@[simp] theorem State.dropCommand_y (s : State) : (s.dropCommand).y = s.y := rfl
@[simp] theorem State.dropCommand_pend (s : State) : (s.dropCommand).pend = s.pend := rfl
@[simp] theorem State.dropCommand_schedule (s : State) : (s.dropCommand).schedule = s.schedule := rfl
@[simp] theorem State.dropCommand_resp (s : State) : (s.dropCommand).resp = s.resp := rfl
@[simp] theorem State.dropCommand_draws (s : State) : (s.dropCommand).draws = s.draws := rfl
@[simp] theorem State.dropCommand_onUndef (s : State) : (s.dropCommand).onUndef = s.onUndef := rfl
@[simp] theorem State.dropCommand_undefOperand (s : State) : (s.dropCommand).undefOperand = s.undefOperand := rfl

/-! ### An illegal word (R172) -/

@[simp] theorem State.issueIllegal_hw (s : State) (c : Word) : (s.issueIllegal c).hw = s.hw := rfl
@[simp] theorem State.issueIllegal_ie (s : State) (c : Word) : (s.issueIllegal c).ie = s.ie := rfl
@[simp] theorem State.issueIllegal_done (s : State) (c : Word) : (s.issueIllegal c).done = true := rfl
@[simp] theorem State.issueIllegal_errcode (s : State) (c : Word) : (s.issueIllegal c).errcode = .illegalCommand := rfl
@[simp] theorem State.issueIllegal_ovr (s : State) (c : Word) : (s.issueIllegal c).ovr = s.ovr := rfl
@[simp] theorem State.issueIllegal_wbusy (s : State) (c : Word) : (s.issueIllegal c).wbusy = s.wbusy := rfl
@[simp] theorem State.issueIllegal_cmdreg (s : State) (c : Word) : (s.issueIllegal c).cmdreg = c := rfl
@[simp] theorem State.issueIllegal_xneg (s : State) (c : Word) : (s.issueIllegal c).xneg = s.xneg := rfl
@[simp] theorem State.issueIllegal_yneg (s : State) (c : Word) : (s.issueIllegal c).yneg = s.yneg := rfl
@[simp] theorem State.issueIllegal_early (s : State) (c : Word) : (s.issueIllegal c).early = s.early := rfl
@[simp] theorem State.issueIllegal_a (s : State) (c : Word) : (s.issueIllegal c).a = s.a := rfl
@[simp] theorem State.issueIllegal_b (s : State) (c : Word) : (s.issueIllegal c).b = s.b := rfl
@[simp] theorem State.issueIllegal_e (s : State) (c : Word) : (s.issueIllegal c).e = s.e := rfl
@[simp] theorem State.issueIllegal_n (s : State) (c : Word) : (s.issueIllegal c).n = s.n := rfl
@[simp] theorem State.issueIllegal_r (s : State) (c : Word) : (s.issueIllegal c).r = s.r := rfl
@[simp] theorem State.issueIllegal_g (s : State) (c : Word) : (s.issueIllegal c).g = s.g := rfl
@[simp] theorem State.issueIllegal_x (s : State) (c : Word) : (s.issueIllegal c).x = s.x := rfl
@[simp] theorem State.issueIllegal_y (s : State) (c : Word) : (s.issueIllegal c).y = s.y := rfl
@[simp] theorem State.issueIllegal_pend (s : State) (c : Word) : (s.issueIllegal c).pend = none := rfl
@[simp] theorem State.issueIllegal_schedule (s : State) (c : Word) : (s.issueIllegal c).schedule = s.schedule := rfl
@[simp] theorem State.issueIllegal_resp (s : State) (c : Word) : (s.issueIllegal c).resp = s.resp := rfl
@[simp] theorem State.issueIllegal_draws (s : State) (c : Word) : (s.issueIllegal c).draws = s.draws := rfl
@[simp] theorem State.issueIllegal_onUndef (s : State) (c : Word) : (s.issueIllegal c).onUndef = s.onUndef := rfl
@[simp] theorem State.issueIllegal_undefOperand (s : State) (c : Word) : (s.issueIllegal c).undefOperand = s.undefOperand := rfl

/-! ### An issue on an UNDEF operand word (R46) -/

@[simp] theorem State.issueUndef_hw (s : State) (i : Instr) : (s.issueUndef i).hw = s.hw := rfl
@[simp] theorem State.issueUndef_ie (s : State) (i : Instr) : (s.issueUndef i).ie = s.ie := rfl
@[simp] theorem State.issueUndef_done (s : State) (i : Instr) : (s.issueUndef i).done = s.undefRefused i := rfl
@[simp] theorem State.issueUndef_errcode (s : State) (i : Instr) : (s.issueUndef i).errcode = if s.undefRefused i then .invalidModulus else .noError := rfl
@[simp] theorem State.issueUndef_ovr (s : State) (i : Instr) : (s.issueUndef i).ovr = s.ovr := rfl
@[simp] theorem State.issueUndef_wbusy (s : State) (i : Instr) : (s.issueUndef i).wbusy = s.wbusy := rfl
@[simp] theorem State.issueUndef_cmdreg (s : State) (i : Instr) : (s.issueUndef i).cmdreg = s.cmdreg := rfl
@[simp] theorem State.issueUndef_xneg (s : State) (i : Instr) : (s.issueUndef i).xneg = s.xneg := rfl
@[simp] theorem State.issueUndef_yneg (s : State) (i : Instr) : (s.issueUndef i).yneg = s.yneg := rfl
@[simp] theorem State.issueUndef_early (s : State) (i : Instr) : (s.issueUndef i).early = s.early := rfl
@[simp] theorem State.issueUndef_a (s : State) (i : Instr) : (s.issueUndef i).a = s.a := rfl
@[simp] theorem State.issueUndef_b (s : State) (i : Instr) : (s.issueUndef i).b = s.b := rfl
@[simp] theorem State.issueUndef_e (s : State) (i : Instr) : (s.issueUndef i).e = s.e := rfl
@[simp] theorem State.issueUndef_n (s : State) (i : Instr) : (s.issueUndef i).n = s.n := rfl
@[simp] theorem State.issueUndef_r (s : State) (i : Instr) : (s.issueUndef i).r = s.r := rfl
@[simp] theorem State.issueUndef_g (s : State) (i : Instr) : (s.issueUndef i).g = s.g := rfl
@[simp] theorem State.issueUndef_x (s : State) (i : Instr) : (s.issueUndef i).x = s.x := rfl
@[simp] theorem State.issueUndef_y (s : State) (i : Instr) : (s.issueUndef i).y = s.y := rfl
@[simp] theorem State.issueUndef_pend (s : State) (i : Instr) : (s.issueUndef i).pend = if s.undefRefused i then none else some i := rfl
@[simp] theorem State.issueUndef_schedule (s : State) (i : Instr) : (s.issueUndef i).schedule = s.schedule := rfl
@[simp] theorem State.issueUndef_resp (s : State) (i : Instr) : (s.issueUndef i).resp = s.resp := rfl
@[simp] theorem State.issueUndef_draws (s : State) (i : Instr) : (s.issueUndef i).draws = s.draws + 1 := rfl
@[simp] theorem State.issueUndef_onUndef (s : State) (i : Instr) : (s.issueUndef i).onUndef = s.onUndef := rfl
@[simp] theorem State.issueUndef_undefOperand (s : State) (i : Instr) : (s.issueUndef i).undefOperand = true := rfl

/-! ### The writes of a completion (R110) -/

@[simp] theorem State.writeResults_hw (s : State) (res : Results) : (s.writeResults res).hw = s.hw := rfl
@[simp] theorem State.writeResults_ie (s : State) (res : Results) : (s.writeResults res).ie = s.ie := rfl
@[simp] theorem State.writeResults_done (s : State) (res : Results) : (s.writeResults res).done = true := rfl
@[simp] theorem State.writeResults_errcode (s : State) (res : Results) : (s.writeResults res).errcode = res.err := rfl
@[simp] theorem State.writeResults_ovr (s : State) (res : Results) : (s.writeResults res).ovr = s.ovr := rfl
@[simp] theorem State.writeResults_wbusy (s : State) (res : Results) : (s.writeResults res).wbusy = s.wbusy := rfl
@[simp] theorem State.writeResults_cmdreg (s : State) (res : Results) : (s.writeResults res).cmdreg = s.cmdreg := rfl
@[simp] theorem State.writeResults_xneg (s : State) (res : Results) : (s.writeResults res).xneg = resultFlag res.xneg s.xneg := rfl
@[simp] theorem State.writeResults_yneg (s : State) (res : Results) : (s.writeResults res).yneg = resultFlag res.yneg s.yneg := rfl
@[simp] theorem State.writeResults_early (s : State) (res : Results) : (s.writeResults res).early = resultFlag res.early s.early := rfl
@[simp] theorem State.writeResults_a (s : State) (res : Results) : (s.writeResults res).a = s.a := rfl
@[simp] theorem State.writeResults_b (s : State) (res : Results) : (s.writeResults res).b = s.b := rfl
@[simp] theorem State.writeResults_e (s : State) (res : Results) : (s.writeResults res).e = s.e := rfl
@[simp] theorem State.writeResults_n (s : State) (res : Results) : (s.writeResults res).n = s.n := rfl
@[simp] theorem State.writeResults_r (s : State) (res : Results) : (s.writeResults res).r = resultWords s.hw.nw res.r s.r := rfl
@[simp] theorem State.writeResults_g (s : State) (res : Results) : (s.writeResults res).g = resultWords s.hw.nw res.g s.g := rfl
@[simp] theorem State.writeResults_x (s : State) (res : Results) : (s.writeResults res).x = resultWords s.hw.nw res.x s.x := rfl
@[simp] theorem State.writeResults_y (s : State) (res : Results) : (s.writeResults res).y = resultWords s.hw.nw res.y s.y := rfl
@[simp] theorem State.writeResults_pend (s : State) (res : Results) : (s.writeResults res).pend = none := rfl
@[simp] theorem State.writeResults_schedule (s : State) (res : Results) : (s.writeResults res).schedule = s.schedule := rfl
@[simp] theorem State.writeResults_resp (s : State) (res : Results) : (s.writeResults res).resp = s.resp := rfl
@[simp] theorem State.writeResults_draws (s : State) (res : Results) : (s.writeResults res).draws = s.draws := rfl
@[simp] theorem State.writeResults_onUndef (s : State) (res : Results) : (s.writeResults res).onUndef = s.onUndef := rfl
@[simp] theorem State.writeResults_undefOperand (s : State) (res : Results) : (s.writeResults res).undefOperand = s.undefOperand := rfl

/-! ### Drawing free values (R11) -/

@[simp] theorem State.drew_hw (s : State) (k : Nat) : (s.drew k).hw = s.hw := rfl
@[simp] theorem State.drew_ie (s : State) (k : Nat) : (s.drew k).ie = s.ie := rfl
@[simp] theorem State.drew_done (s : State) (k : Nat) : (s.drew k).done = s.done := rfl
@[simp] theorem State.drew_errcode (s : State) (k : Nat) : (s.drew k).errcode = s.errcode := rfl
@[simp] theorem State.drew_ovr (s : State) (k : Nat) : (s.drew k).ovr = s.ovr := rfl
@[simp] theorem State.drew_wbusy (s : State) (k : Nat) : (s.drew k).wbusy = s.wbusy := rfl
@[simp] theorem State.drew_cmdreg (s : State) (k : Nat) : (s.drew k).cmdreg = s.cmdreg := rfl
@[simp] theorem State.drew_xneg (s : State) (k : Nat) : (s.drew k).xneg = s.xneg := rfl
@[simp] theorem State.drew_yneg (s : State) (k : Nat) : (s.drew k).yneg = s.yneg := rfl
@[simp] theorem State.drew_early (s : State) (k : Nat) : (s.drew k).early = s.early := rfl
@[simp] theorem State.drew_a (s : State) (k : Nat) : (s.drew k).a = s.a := rfl
@[simp] theorem State.drew_b (s : State) (k : Nat) : (s.drew k).b = s.b := rfl
@[simp] theorem State.drew_e (s : State) (k : Nat) : (s.drew k).e = s.e := rfl
@[simp] theorem State.drew_n (s : State) (k : Nat) : (s.drew k).n = s.n := rfl
@[simp] theorem State.drew_r (s : State) (k : Nat) : (s.drew k).r = s.r := rfl
@[simp] theorem State.drew_g (s : State) (k : Nat) : (s.drew k).g = s.g := rfl
@[simp] theorem State.drew_x (s : State) (k : Nat) : (s.drew k).x = s.x := rfl
@[simp] theorem State.drew_y (s : State) (k : Nat) : (s.drew k).y = s.y := rfl
@[simp] theorem State.drew_pend (s : State) (k : Nat) : (s.drew k).pend = s.pend := rfl
@[simp] theorem State.drew_schedule (s : State) (k : Nat) : (s.drew k).schedule = s.schedule := rfl
@[simp] theorem State.drew_resp (s : State) (k : Nat) : (s.drew k).resp = s.resp := rfl
@[simp] theorem State.drew_draws (s : State) (k : Nat) : (s.drew k).draws = s.draws + k := rfl
@[simp] theorem State.drew_onUndef (s : State) (k : Nat) : (s.drew k).onUndef = s.onUndef := rfl
@[simp] theorem State.drew_undefOperand (s : State) (k : Nat) : (s.drew k).undefOperand = s.undefOperand := rfl

/-! ### Reset (R49, R200) -/

@[simp] theorem State.hardReset_hw (s : State) : (s.hardReset).hw = s.hw := rfl
@[simp] theorem State.hardReset_ie (s : State) : (s.hardReset).ie = false := rfl
@[simp] theorem State.hardReset_done (s : State) : (s.hardReset).done = false := rfl
@[simp] theorem State.hardReset_errcode (s : State) : (s.hardReset).errcode = .noError := rfl
@[simp] theorem State.hardReset_ovr (s : State) : (s.hardReset).ovr = false := rfl
@[simp] theorem State.hardReset_wbusy (s : State) : (s.hardReset).wbusy = false := rfl
@[simp] theorem State.hardReset_cmdreg (s : State) : (s.hardReset).cmdreg = 0#32 := rfl
@[simp] theorem State.hardReset_xneg (s : State) : (s.hardReset).xneg = FlagBit.undef := rfl
@[simp] theorem State.hardReset_yneg (s : State) : (s.hardReset).yneg = FlagBit.undef := rfl
@[simp] theorem State.hardReset_early (s : State) : (s.hardReset).early = FlagBit.undef := rfl
@[simp] theorem State.hardReset_a (s : State) : (s.hardReset).a = undefReg s.hw.nw := rfl
@[simp] theorem State.hardReset_b (s : State) : (s.hardReset).b = undefReg s.hw.nw := rfl
@[simp] theorem State.hardReset_e (s : State) : (s.hardReset).e = undefReg s.hw.nw := rfl
@[simp] theorem State.hardReset_n (s : State) : (s.hardReset).n = undefReg s.hw.nw := rfl
@[simp] theorem State.hardReset_r (s : State) : (s.hardReset).r = undefReg s.hw.nw := rfl
@[simp] theorem State.hardReset_g (s : State) : (s.hardReset).g = undefReg s.hw.nw := rfl
@[simp] theorem State.hardReset_x (s : State) : (s.hardReset).x = undefReg s.hw.nw := rfl
@[simp] theorem State.hardReset_y (s : State) : (s.hardReset).y = undefReg s.hw.nw := rfl
@[simp] theorem State.hardReset_pend (s : State) : (s.hardReset).pend = none := rfl
@[simp] theorem State.hardReset_schedule (s : State) : (s.hardReset).schedule = s.schedule := rfl
@[simp] theorem State.hardReset_resp (s : State) : (s.hardReset).resp = s.resp := rfl
@[simp] theorem State.hardReset_draws (s : State) : (s.hardReset).draws = s.draws := rfl
@[simp] theorem State.hardReset_onUndef (s : State) : (s.hardReset).onUndef = s.onUndef := rfl
@[simp] theorem State.hardReset_undefOperand (s : State) : (s.hardReset).undefOperand = s.undefOperand := rfl

/-! ### An accepted read (R66) -/

@[simp] theorem State.acceptRead_hw (s : State) (q : Target) : (s.acceptRead q).hw = s.hw := rfl
@[simp] theorem State.acceptRead_ie (s : State) (q : Target) : (s.acceptRead q).ie = s.ie := rfl
@[simp] theorem State.acceptRead_done (s : State) (q : Target) : (s.acceptRead q).done = s.done := rfl
@[simp] theorem State.acceptRead_errcode (s : State) (q : Target) : (s.acceptRead q).errcode = s.errcode := rfl
@[simp] theorem State.acceptRead_ovr (s : State) (q : Target) : (s.acceptRead q).ovr = s.ovr := rfl
@[simp] theorem State.acceptRead_wbusy (s : State) (q : Target) : (s.acceptRead q).wbusy = s.wbusy := rfl
@[simp] theorem State.acceptRead_cmdreg (s : State) (q : Target) : (s.acceptRead q).cmdreg = s.cmdreg := rfl
@[simp] theorem State.acceptRead_xneg (s : State) (q : Target) : (s.acceptRead q).xneg = s.xneg := rfl
@[simp] theorem State.acceptRead_yneg (s : State) (q : Target) : (s.acceptRead q).yneg = s.yneg := rfl
@[simp] theorem State.acceptRead_early (s : State) (q : Target) : (s.acceptRead q).early = s.early := rfl
@[simp] theorem State.acceptRead_a (s : State) (q : Target) : (s.acceptRead q).a = s.a := rfl
@[simp] theorem State.acceptRead_b (s : State) (q : Target) : (s.acceptRead q).b = s.b := rfl
@[simp] theorem State.acceptRead_e (s : State) (q : Target) : (s.acceptRead q).e = s.e := rfl
@[simp] theorem State.acceptRead_n (s : State) (q : Target) : (s.acceptRead q).n = s.n := rfl
@[simp] theorem State.acceptRead_r (s : State) (q : Target) : (s.acceptRead q).r = s.r := rfl
@[simp] theorem State.acceptRead_g (s : State) (q : Target) : (s.acceptRead q).g = s.g := rfl
@[simp] theorem State.acceptRead_x (s : State) (q : Target) : (s.acceptRead q).x = s.x := rfl
@[simp] theorem State.acceptRead_y (s : State) (q : Target) : (s.acceptRead q).y = s.y := rfl
@[simp] theorem State.acceptRead_pend (s : State) (q : Target) : (s.acceptRead q).pend = s.pend := rfl
@[simp] theorem State.acceptRead_schedule (s : State) (q : Target) : (s.acceptRead q).schedule = s.schedule := rfl
@[simp] theorem State.acceptRead_resp (s : State) (q : Target) : (s.acceptRead q).resp = some (.data (s.readTarget q)) := rfl
@[simp] theorem State.acceptRead_draws (s : State) (q : Target) : (s.acceptRead q).draws = s.draws + 1 := rfl
@[simp] theorem State.acceptRead_onUndef (s : State) (q : Target) : (s.acceptRead q).onUndef = s.onUndef := rfl
@[simp] theorem State.acceptRead_undefOperand (s : State) (q : Target) : (s.acceptRead q).undefOperand = s.undefOperand := rfl

/-! ### A refused access (R64) -/

@[simp] theorem State.busError_hw (s : State) : (s.busError).hw = s.hw := rfl
@[simp] theorem State.busError_ie (s : State) : (s.busError).ie = s.ie := rfl
@[simp] theorem State.busError_done (s : State) : (s.busError).done = s.done := rfl
@[simp] theorem State.busError_errcode (s : State) : (s.busError).errcode = s.errcode := rfl
@[simp] theorem State.busError_ovr (s : State) : (s.busError).ovr = s.ovr := rfl
@[simp] theorem State.busError_wbusy (s : State) : (s.busError).wbusy = s.wbusy := rfl
@[simp] theorem State.busError_cmdreg (s : State) : (s.busError).cmdreg = s.cmdreg := rfl
@[simp] theorem State.busError_xneg (s : State) : (s.busError).xneg = s.xneg := rfl
@[simp] theorem State.busError_yneg (s : State) : (s.busError).yneg = s.yneg := rfl
@[simp] theorem State.busError_early (s : State) : (s.busError).early = s.early := rfl
@[simp] theorem State.busError_a (s : State) : (s.busError).a = s.a := rfl
@[simp] theorem State.busError_b (s : State) : (s.busError).b = s.b := rfl
@[simp] theorem State.busError_e (s : State) : (s.busError).e = s.e := rfl
@[simp] theorem State.busError_n (s : State) : (s.busError).n = s.n := rfl
@[simp] theorem State.busError_r (s : State) : (s.busError).r = s.r := rfl
@[simp] theorem State.busError_g (s : State) : (s.busError).g = s.g := rfl
@[simp] theorem State.busError_x (s : State) : (s.busError).x = s.x := rfl
@[simp] theorem State.busError_y (s : State) : (s.busError).y = s.y := rfl
@[simp] theorem State.busError_pend (s : State) : (s.busError).pend = s.pend := rfl
@[simp] theorem State.busError_schedule (s : State) : (s.busError).schedule = s.schedule := rfl
@[simp] theorem State.busError_resp (s : State) : (s.busError).resp = some .slverr := rfl
@[simp] theorem State.busError_draws (s : State) : (s.busError).draws = s.draws := rfl
@[simp] theorem State.busError_onUndef (s : State) : (s.busError).onUndef = s.onUndef := rfl
@[simp] theorem State.busError_undefOperand (s : State) : (s.busError).undefOperand = s.undefOperand := rfl

/-! ### A write to STATUS (R34) -/

@[simp] theorem State.writeStatus_hw (s : State) (d : Word) : (s.writeStatus d).hw = s.hw := rfl
@[simp] theorem State.writeStatus_ie (s : State) (d : Word) : (s.writeStatus d).ie = s.ie := rfl
@[simp] theorem State.writeStatus_done (s : State) (d : Word) : (s.writeStatus d).done = (s.done && !d.getLsbD 1) := rfl
@[simp] theorem State.writeStatus_errcode (s : State) (d : Word) : (s.writeStatus d).errcode = s.errcode := rfl
@[simp] theorem State.writeStatus_ovr (s : State) (d : Word) : (s.writeStatus d).ovr = (s.ovr && !d.getLsbD 16) := rfl
@[simp] theorem State.writeStatus_wbusy (s : State) (d : Word) : (s.writeStatus d).wbusy = (s.wbusy && !d.getLsbD 17) := rfl
@[simp] theorem State.writeStatus_cmdreg (s : State) (d : Word) : (s.writeStatus d).cmdreg = s.cmdreg := rfl
@[simp] theorem State.writeStatus_xneg (s : State) (d : Word) : (s.writeStatus d).xneg = s.xneg := rfl
@[simp] theorem State.writeStatus_yneg (s : State) (d : Word) : (s.writeStatus d).yneg = s.yneg := rfl
@[simp] theorem State.writeStatus_early (s : State) (d : Word) : (s.writeStatus d).early = s.early := rfl
@[simp] theorem State.writeStatus_a (s : State) (d : Word) : (s.writeStatus d).a = s.a := rfl
@[simp] theorem State.writeStatus_b (s : State) (d : Word) : (s.writeStatus d).b = s.b := rfl
@[simp] theorem State.writeStatus_e (s : State) (d : Word) : (s.writeStatus d).e = s.e := rfl
@[simp] theorem State.writeStatus_n (s : State) (d : Word) : (s.writeStatus d).n = s.n := rfl
@[simp] theorem State.writeStatus_r (s : State) (d : Word) : (s.writeStatus d).r = s.r := rfl
@[simp] theorem State.writeStatus_g (s : State) (d : Word) : (s.writeStatus d).g = s.g := rfl
@[simp] theorem State.writeStatus_x (s : State) (d : Word) : (s.writeStatus d).x = s.x := rfl
@[simp] theorem State.writeStatus_y (s : State) (d : Word) : (s.writeStatus d).y = s.y := rfl
@[simp] theorem State.writeStatus_pend (s : State) (d : Word) : (s.writeStatus d).pend = s.pend := rfl
@[simp] theorem State.writeStatus_schedule (s : State) (d : Word) : (s.writeStatus d).schedule = s.schedule := rfl
@[simp] theorem State.writeStatus_resp (s : State) (d : Word) : (s.writeStatus d).resp = s.resp := rfl
@[simp] theorem State.writeStatus_draws (s : State) (d : Word) : (s.writeStatus d).draws = s.draws := rfl
@[simp] theorem State.writeStatus_onUndef (s : State) (d : Word) : (s.writeStatus d).onUndef = s.onUndef := rfl
@[simp] theorem State.writeStatus_undefOperand (s : State) (d : Word) : (s.writeStatus d).undefOperand = s.undefOperand := rfl

/-! ### Taking the next event off the schedule (R69) -/

@[simp] theorem State.taken_hw (s : State) : (s.taken).hw = s.hw := rfl
@[simp] theorem State.taken_ie (s : State) : (s.taken).ie = s.ie := rfl
@[simp] theorem State.taken_done (s : State) : (s.taken).done = s.done := rfl
@[simp] theorem State.taken_errcode (s : State) : (s.taken).errcode = s.errcode := rfl
@[simp] theorem State.taken_ovr (s : State) : (s.taken).ovr = s.ovr := rfl
@[simp] theorem State.taken_wbusy (s : State) : (s.taken).wbusy = s.wbusy := rfl
@[simp] theorem State.taken_cmdreg (s : State) : (s.taken).cmdreg = s.cmdreg := rfl
@[simp] theorem State.taken_xneg (s : State) : (s.taken).xneg = s.xneg := rfl
@[simp] theorem State.taken_yneg (s : State) : (s.taken).yneg = s.yneg := rfl
@[simp] theorem State.taken_early (s : State) : (s.taken).early = s.early := rfl
@[simp] theorem State.taken_a (s : State) : (s.taken).a = s.a := rfl
@[simp] theorem State.taken_b (s : State) : (s.taken).b = s.b := rfl
@[simp] theorem State.taken_e (s : State) : (s.taken).e = s.e := rfl
@[simp] theorem State.taken_n (s : State) : (s.taken).n = s.n := rfl
@[simp] theorem State.taken_r (s : State) : (s.taken).r = s.r := rfl
@[simp] theorem State.taken_g (s : State) : (s.taken).g = s.g := rfl
@[simp] theorem State.taken_x (s : State) : (s.taken).x = s.x := rfl
@[simp] theorem State.taken_y (s : State) : (s.taken).y = s.y := rfl
@[simp] theorem State.taken_pend (s : State) : (s.taken).pend = s.pend := rfl
@[simp] theorem State.taken_schedule (s : State) : (s.taken).schedule = s.schedule.tail := rfl
@[simp] theorem State.taken_resp (s : State) : (s.taken).resp = s.resp := rfl
@[simp] theorem State.taken_draws (s : State) : (s.taken).draws = s.draws := rfl
@[simp] theorem State.taken_onUndef (s : State) : (s.taken).onUndef = s.onUndef := rfl
@[simp] theorem State.taken_undefOperand (s : State) : (s.taken).undefOperand = s.undefOperand := rfl

/-! ### Registers by name -/

@[simp] theorem State.reg_a (s : State) : s.reg .a = s.a := rfl
@[simp] theorem State.reg_b (s : State) : s.reg .b = s.b := rfl
@[simp] theorem State.reg_e (s : State) : s.reg .e = s.e := rfl
@[simp] theorem State.reg_n (s : State) : s.reg .n = s.n := rfl
@[simp] theorem State.reg_r (s : State) : s.reg .r = s.r := rfl
@[simp] theorem State.reg_g (s : State) : s.reg .g = s.g := rfl
@[simp] theorem State.reg_x (s : State) : s.reg .x = s.x := rfl
@[simp] theorem State.reg_y (s : State) : s.reg .y = s.y := rfl

/-- A register after a write to one of the eight. -/
@[simp] theorem State.reg_setReg (s : State) (q q' : Reg) (ws : WideReg) :
    (s.setReg q ws).reg q' = if q' = q then ws else s.reg q' := by
  cases q <;> cases q' <;> rfl

@[simp] theorem State.setReg_hw (s : State) (q : Reg) (ws : WideReg) : (s.setReg q ws).hw = s.hw := by cases q <;> rfl
@[simp] theorem State.setReg_ie (s : State) (q : Reg) (ws : WideReg) : (s.setReg q ws).ie = s.ie := by cases q <;> rfl
@[simp] theorem State.setReg_done (s : State) (q : Reg) (ws : WideReg) : (s.setReg q ws).done = s.done := by cases q <;> rfl
@[simp] theorem State.setReg_errcode (s : State) (q : Reg) (ws : WideReg) : (s.setReg q ws).errcode = s.errcode := by cases q <;> rfl
@[simp] theorem State.setReg_ovr (s : State) (q : Reg) (ws : WideReg) : (s.setReg q ws).ovr = s.ovr := by cases q <;> rfl
@[simp] theorem State.setReg_wbusy (s : State) (q : Reg) (ws : WideReg) : (s.setReg q ws).wbusy = s.wbusy := by cases q <;> rfl
@[simp] theorem State.setReg_cmdreg (s : State) (q : Reg) (ws : WideReg) : (s.setReg q ws).cmdreg = s.cmdreg := by cases q <;> rfl
@[simp] theorem State.setReg_xneg (s : State) (q : Reg) (ws : WideReg) : (s.setReg q ws).xneg = s.xneg := by cases q <;> rfl
@[simp] theorem State.setReg_yneg (s : State) (q : Reg) (ws : WideReg) : (s.setReg q ws).yneg = s.yneg := by cases q <;> rfl
@[simp] theorem State.setReg_early (s : State) (q : Reg) (ws : WideReg) : (s.setReg q ws).early = s.early := by cases q <;> rfl
@[simp] theorem State.setReg_pend (s : State) (q : Reg) (ws : WideReg) : (s.setReg q ws).pend = s.pend := by cases q <;> rfl
@[simp] theorem State.setReg_schedule (s : State) (q : Reg) (ws : WideReg) : (s.setReg q ws).schedule = s.schedule := by cases q <;> rfl
@[simp] theorem State.setReg_resp (s : State) (q : Reg) (ws : WideReg) : (s.setReg q ws).resp = s.resp := by cases q <;> rfl
@[simp] theorem State.setReg_draws (s : State) (q : Reg) (ws : WideReg) : (s.setReg q ws).draws = s.draws := by cases q <;> rfl
@[simp] theorem State.setReg_onUndef (s : State) (q : Reg) (ws : WideReg) : (s.setReg q ws).onUndef = s.onUndef := by cases q <;> rfl
@[simp] theorem State.setReg_undefOperand (s : State) (q : Reg) (ws : WideReg) : (s.setReg q ws).undefOperand = s.undefOperand := by cases q <;> rfl

/-! ### A host write of one word (R41) -/

@[simp] theorem State.setWord_hw (s : State) (q : Reg) (k : Nat) (d : Word) : (s.setWord q k d).hw = s.hw := State.setReg_hw ..
@[simp] theorem State.setWord_ie (s : State) (q : Reg) (k : Nat) (d : Word) : (s.setWord q k d).ie = s.ie := State.setReg_ie ..
@[simp] theorem State.setWord_done (s : State) (q : Reg) (k : Nat) (d : Word) : (s.setWord q k d).done = s.done := State.setReg_done ..
@[simp] theorem State.setWord_errcode (s : State) (q : Reg) (k : Nat) (d : Word) : (s.setWord q k d).errcode = s.errcode := State.setReg_errcode ..
@[simp] theorem State.setWord_ovr (s : State) (q : Reg) (k : Nat) (d : Word) : (s.setWord q k d).ovr = s.ovr := State.setReg_ovr ..
@[simp] theorem State.setWord_wbusy (s : State) (q : Reg) (k : Nat) (d : Word) : (s.setWord q k d).wbusy = s.wbusy := State.setReg_wbusy ..
@[simp] theorem State.setWord_cmdreg (s : State) (q : Reg) (k : Nat) (d : Word) : (s.setWord q k d).cmdreg = s.cmdreg := State.setReg_cmdreg ..
@[simp] theorem State.setWord_xneg (s : State) (q : Reg) (k : Nat) (d : Word) : (s.setWord q k d).xneg = s.xneg := State.setReg_xneg ..
@[simp] theorem State.setWord_yneg (s : State) (q : Reg) (k : Nat) (d : Word) : (s.setWord q k d).yneg = s.yneg := State.setReg_yneg ..
@[simp] theorem State.setWord_early (s : State) (q : Reg) (k : Nat) (d : Word) : (s.setWord q k d).early = s.early := State.setReg_early ..
@[simp] theorem State.setWord_pend (s : State) (q : Reg) (k : Nat) (d : Word) : (s.setWord q k d).pend = s.pend := State.setReg_pend ..
@[simp] theorem State.setWord_schedule (s : State) (q : Reg) (k : Nat) (d : Word) : (s.setWord q k d).schedule = s.schedule := State.setReg_schedule ..
@[simp] theorem State.setWord_resp (s : State) (q : Reg) (k : Nat) (d : Word) : (s.setWord q k d).resp = s.resp := State.setReg_resp ..
@[simp] theorem State.setWord_draws (s : State) (q : Reg) (k : Nat) (d : Word) : (s.setWord q k d).draws = s.draws := State.setReg_draws ..
@[simp] theorem State.setWord_onUndef (s : State) (q : Reg) (k : Nat) (d : Word) : (s.setWord q k d).onUndef = s.onUndef := State.setReg_onUndef ..
@[simp] theorem State.setWord_undefOperand (s : State) (q : Reg) (k : Nat) (d : Word) : (s.setWord q k d).undefOperand = s.undefOperand := State.setReg_undefOperand ..

/-- A register after a host write of word `k` of register `q`. -/
@[simp] theorem State.reg_setWord (s : State) (q q' : Reg) (k : Nat) (d : Word) :
    (s.setWord q k d).reg q' = if q' = q then (s.reg q).set k { bits := d, defined := true } else s.reg q' :=
  State.reg_setReg ..

end Sys2Proof.Machine
end

