-- ==== Sys2Proof/Laws/Ops.lean ====
section
/-!
SUPPORT. The words of a W-bit register and the value they hold; free values; the results of a completion.
-/

namespace Sys2Proof.Machine

/-! ### Words and values (R9) -/

@[simp] theorem wordsOf_length (nw v : Nat) : (wordsOf nw v).length = nw := by
  induction nw generalizing v with
  | zero => rfl
  | succ k ih => simp [wordsOf, ih]

@[simp] theorem wordsDefined_wordsOf (nw v : Nat) : wordsDefined (wordsOf nw v) = true := by
  induction nw generalizing v with
  | zero => rfl
  | succ k ih =>
    have := ih (v / 2 ^ 32)
    rwa [wordsDefined] at *

/-- NW words hold a value below `2^W`. -/
theorem wordsValue_lt (ws : WideReg) : wordsValue ws < 2 ^ (32 * ws.length) := by
  induction ws with
  | nil => simp [wordsValue]
  | cons w ws ih =>
    have hw : w.bits.toNat < 2 ^ 32 := w.bits.isLt
    have hp : 2 ^ (32 * (ws.length + 1)) = 2 ^ 32 * 2 ^ (32 * ws.length) := by rw [← pow_add]; ring_nf
    simp only [wordsValue, List.length_cons, hp]
    nlinarith

/-- Storing a value that fits and reading it back gives the value. -/
theorem wordsValue_wordsOf {nw v : Nat} (h : v < 2 ^ (32 * nw)) : wordsValue (wordsOf nw v) = v := by
  induction nw generalizing v with
  | zero => simp_all [wordsValue, wordsOf]
  | succ k ih =>
    have hp : 2 ^ (32 * (k + 1)) = 2 ^ (32 * k) * 2 ^ 32 := by rw [← pow_add]; ring_nf
    have hd : v / 2 ^ 32 < 2 ^ (32 * k) := Nat.div_lt_of_lt_mul (by rw [hp] at h; linarith)
    simp only [wordsValue, wordsOf, BitVec.toNat_ofNat, ih hd]
    exact Nat.mod_add_div v (2 ^ 32)

/-- Word `k` of a register is bits [32k+31:32k] of its value. -/
theorem bits_eq_of_getElem? {ws : WideReg} {k : Nat} {w : DataWord} (h : ws[k]? = some w) :
    w.bits = BitVec.ofNat 32 (wordsValue ws / 2 ^ (32 * k)) := by
  induction ws generalizing k with
  | nil => simp at h
  | cons x xs ih =>
    cases k with
    | zero =>
      cases h
      apply BitVec.eq_of_toNat_eq
      simp [wordsValue]
      omega
    | succ k =>
      have := x.bits.isLt
      rw [ih (by simpa using h), wordsValue, show 32 * (k + 1) = 32 + 32 * k by ring, pow_add, ← Nat.div_div_eq_div_mul]
      congr 2
      omega

/-- A drawn W-bit value fits its register. -/
theorem drawValue_lt (nw c : Nat) : drawValue nw c < 2 ^ (32 * nw) := by
  induction nw generalizing c with
  | zero => simp [drawValue]
  | succ k ih =>
    have hw : (Config.freeWord c).toNat < 2 ^ 32 := (Config.freeWord c).isLt
    have hp : 2 ^ (32 * (k + 1)) = 2 ^ 32 * 2 ^ (32 * k) := by rw [← pow_add]; ring_nf
    have := ih (c + 1)
    simp only [drawValue, hp]
    nlinarith

/-- No word of a reset register is defined, if it has one (R49). -/
theorem wordsDefined_undefReg {nw : Nat} (h : 0 < nw) : wordsDefined (undefReg nw) = false := by
  obtain ⟨k, rfl⟩ := Nat.exists_eq_succ_of_ne_zero h.ne'
  rfl

@[simp] theorem undefReg_length (nw : Nat) : (undefReg nw).length = nw := List.length_replicate

/-! ### Results of a completion (R110) -/

@[simp] theorem resultWords_none (nw : Nat) (old : WideReg) : resultWords nw none old = old := rfl

@[simp] theorem resultWords_some (nw v : Nat) (old : WideReg) : resultWords nw (some v) old = wordsOf nw v := rfl

@[simp] theorem resultFlag_none (old : FlagBit) : resultFlag none old = old := rfl

@[simp] theorem resultFlag_some (v : Bool) (old : FlagBit) : resultFlag (some v) old = ⟨v, true⟩ := rfl

/-- A register keeps its number of words whatever a completion writes. -/
theorem resultWords_length (v : Option Nat) {nw : Nat} {old : WideReg} (h : old.length = nw) :
    (resultWords nw v old).length = nw := by
  cases v <;> simp [h]

@[simp] theorem fitsWidth_none (p : Params) : fitsWidth p none = true := rfl

@[simp] theorem fitsWidth_some (p : Params) (v : Nat) : fitsWidth p (some v) = true ↔ v < 2 ^ p.width := by
  simp [fitsWidth]

/-- Results fit exactly when each listed register value does (I10). -/
theorem Results.fits_iff (res : Results) (p : Params) :
    res.fits p = true ↔ fitsWidth p res.r = true ∧ fitsWidth p res.g = true ∧ fitsWidth p res.x = true ∧
      fitsWidth p res.y = true := by
  simp [Results.fits, and_assoc]

end Sys2Proof.Machine
end

