-- ==== Sys2Proof/Laws/Command.lean ====
section
/-!
SUPPORT. What the shared halves of a meaning can do, said once: the issue, the completion, and runCommand.
-/

namespace Sys2Proof.Machine

/-! ### Each command as one instance of runCommand -/

/-- The result function of each command (R111). -/
def resultOf : Instr → Operands → Results
  | .modmul => modmulResults
  | .modexp => modexpResults
  | .extgcd na nb => extgcdResults na nb
  | .modinv => modinvResults

/-- The results of each command on UNDEF operands (R46). -/
def freeOf : Instr → Params → Nat → Results
  | .modmul => modmulFree
  | .modexp => modexpFree
  | .extgcd _ _ => extgcdFree
  | .modinv => modinvFree

/-- Every arm of exec is the shared shape, on the command's own result functions. -/
theorem exec_eq_runCommand (i : Instr) (s : State) : exec i s = runCommand i (resultOf i) (freeOf i) s := by
  cases i <;> rfl

/-! ### Issue (R104, R105, R107) -/

/-- The ends of an issue: in flight; INVALID_MODULUS; and, with an UNDEF operand word, the fault UndefOperand or the
hardware's going on. -/
theorem issue_cases (s : State) (i : Instr) :
    (s.operandsDefined i = true ∧ s.modulusZero i = false ∧
        s.issue i = .next ((s.acceptCommand (encode i)).startCommand i)) ∨
      (s.operandsDefined i = true ∧ s.modulusZero i = true ∧
        s.issue i = .next ((s.acceptCommand (encode i)).endCommand .invalidModulus)) ∨
      (s.operandsDefined i = false ∧ s.onUndef = .modelFaults ∧ s.issue i = .fault .undefOperand) ∨
      (s.operandsDefined i = false ∧ s.onUndef = .hardwareGoesOn ∧
        s.issue i = .next ((s.acceptCommand (encode i)).issueUndef i)) := by
  unfold State.issue
  cases s.operandsDefined i <;> cases s.modulusZero i <;> cases s.onUndef <;> simp

/-- The ends of an issue that goes on. -/
theorem issue_next {s t : State} {i : Instr} (h : s.issue i = .next t) :
    (s.operandsDefined i = true ∧ s.modulusZero i = false ∧ t = (s.acceptCommand (encode i)).startCommand i) ∨
      (s.operandsDefined i = true ∧ s.modulusZero i = true ∧
        t = (s.acceptCommand (encode i)).endCommand .invalidModulus) ∨
      (s.operandsDefined i = false ∧ s.onUndef = .hardwareGoesOn ∧
        t = (s.acceptCommand (encode i)).issueUndef i) := by
  obtain ⟨hd, hz, h'⟩ | ⟨hd, hz, h'⟩ | ⟨-, -, h'⟩ | ⟨hd, ho, h'⟩ := issue_cases s i <;> rw [h'] at h <;> cases h
  · exact .inl ⟨hd, hz, rfl⟩
  · exact .inr (.inl ⟨hd, hz, rfl⟩)
  · exact .inr (.inr ⟨hd, ho, rfl⟩)

/-- An issue that goes on writes CMDREG, DONE, ERRCODE, PEND and the model's own fields, and nothing else. -/
theorem issue_frame {s t : State} {i : Instr} (h : s.issue i = .next t) :
    t = { s with
      cmdreg := encode i, done := t.done, errcode := t.errcode, pend := t.pend, draws := t.draws,
      undefOperand := t.undefOperand } := by
  obtain ⟨-, -, rfl⟩ | ⟨-, -, rfl⟩ | ⟨-, -, rfl⟩ := issue_next h <;> rfl

/-! ### Completion (R110) -/

/-- The ends of a completion. -/
theorem completeWith_cases (s : State) (i : Instr) (result : Operands → Results) (free : Params → Nat → Results) :
    (s.operandsDefined i = true ∧ s.modulusZero i = true ∧
        s.completeWith i result free = .next (s.endCommand .invalidModulus)) ∨
      (s.operandsDefined i = true ∧ s.modulusZero i = false ∧ (result s.operands).fits s.hw = true ∧
        s.completeWith i result free = .next (s.writeResults (result s.operands))) ∨
      (s.operandsDefined i = true ∧ s.modulusZero i = false ∧ (result s.operands).fits s.hw = false ∧
        s.completeWith i result free = .refused .resultDoesNotFit) ∨
      (s.operandsDefined i = false ∧
        s.completeWith i result free = .next (s.finishUndef (free s.hw s.draws))) := by
  unfold State.completeWith State.finish
  cases s.operandsDefined i <;> cases s.modulusZero i <;> cases (result s.operands).fits s.hw <;> simp

/-- What a completion that goes on does: it ends the command with INVALID_MODULUS, or writes some results and advances
the draws. -/
theorem completeWith_next {s t : State} {i : Instr} {result : Operands → Results} {free : Params → Nat → Results}
    (h : s.completeWith i result free = .next t) :
    t = s.endCommand .invalidModulus ∨ ∃ res k, t = (s.writeResults res).drew k := by
  obtain ⟨-, -, h'⟩ | ⟨-, -, -, h'⟩ | ⟨-, -, -, h'⟩ | ⟨-, h'⟩ := completeWith_cases s i result free <;>
    rw [h'] at h <;> cases h
  · exact .inl rfl
  · exact .inr ⟨_, 0, rfl⟩
  · exact .inr ⟨_, _, rfl⟩

/-! ### The two halves together -/

/-- A command that goes on has been issued, has completed, or has been dropped. -/
theorem exec_next {i : Instr} {s t : State} (h : exec i s = .next t) :
    (s.pend = none ∧ s.issue i = .next t) ∨
      (s.pend = some i ∧ s.completeWith i (resultOf i) (freeOf i) = .next t) ∨
      (∃ j, s.pend = some j ∧ j ≠ i ∧ t = s.dropCommand) := by
  rw [exec_eq_runCommand] at h
  unfold runCommand at h
  split at h
  · exact .inl ⟨‹_›, h⟩
  · split at h
    · next hp hj => subst hj; exact .inr (.inl ⟨hp, h⟩)
    · next j hp hj => cases h; exact .inr (.inr ⟨j, hp, hj, rfl⟩)

/-- With no command in flight a command is issued. -/
theorem exec_of_idle {s : State} (i : Instr) (h : s.pend = none) : exec i s = s.issue i := by
  rw [exec_eq_runCommand]; simp [runCommand, h]

/-- With the command itself in flight it completes. -/
theorem exec_of_pending {s : State} {i : Instr} (h : s.pend = some i) :
    exec i s = s.completeWith i (resultOf i) (freeOf i) := by
  rw [exec_eq_runCommand]; simp [runCommand, h]

/-- A completion on defined operands and a nonzero modulus whose results fit writes them. -/
theorem exec_of_fits {s : State} {i : Instr} (h : s.pend = some i) (hd : s.operandsDefined i = true)
    (hz : s.modulusZero i = false) (hf : (resultOf i s.operands).fits s.hw = true) :
    exec i s = .next (s.writeResults (resultOf i s.operands)) := by
  rw [exec_of_pending h]
  simp [State.completeWith, State.finish, hd, hz, hf]

end Sys2Proof.Machine
end

