-- ==== Sys2Proof/Laws/Port.lean ====
section
/-!
SUPPORT. What a transaction and a step can do, said once.
-/

namespace Sys2Proof.Machine

/-! ### Transactions -/

/-- A read that goes on: it was accepted, or it was answered SLVERR. -/
theorem busRead_next {s t : State} {addr size : Nat} (h : s.busRead addr size = .next t) :
    inAperture s.hw addr = true ∧
      ((accepted (addr - s.hw.base) size = true ∧ t = s.acceptRead (target (addr - s.hw.base))) ∨
        (accepted (addr - s.hw.base) size = false ∧ t = s.busError)) := by
  unfold State.busRead at h
  split at h
  · refine ⟨‹_›, ?_⟩
    split at h <;> cases h
    · exact .inl ⟨‹_›, rfl⟩
    · exact .inr ⟨Bool.eq_false_iff.mpr ‹¬ _›, rfl⟩
  · cases h

/-- A write that goes on: it was accepted and had its target's effect, or it was answered SLVERR. -/
theorem busWrite_next {s t : State} {addr size : Nat} {d : Word} (h : s.busWrite addr size d = .next t) :
    inAperture s.hw addr = true ∧
      ((accepted (addr - s.hw.base) size = true ∧
          { s with resp := some .okay }.writeTarget (target (addr - s.hw.base)) d = .next t) ∨
        (accepted (addr - s.hw.base) size = false ∧ t = s.busError)) := by
  unfold State.busWrite at h
  split at h
  · refine ⟨‹_›, ?_⟩
    split at h
    · exact .inl ⟨‹_›, h⟩
    · cases h
      exact .inr ⟨Bool.eq_false_iff.mpr ‹¬ _›, rfl⟩
  · cases h

/-- A write to CMD that goes on: dropped, issued, or illegal (R103 to R106). -/
theorem writeCommand_next {s t : State} {c : Word} (h : s.writeCommand c = .next t) :
    (s.pend.isSome = true ∧ t = s.dropCommand) ∨
      (∃ i, s.pend = none ∧ decode c = some i ∧ s.issue i = .next t) ∨
      (s.pend = none ∧ decode c = none ∧ t = s.issueIllegal c) := by
  unfold State.writeCommand at h
  split at h
  · next j hp => cases h; exact .inl ⟨by simp [hp], rfl⟩
  · next hp =>
    split at h
    · next i hd => exact .inr (.inl ⟨i, hp, hd, by rwa [exec_of_idle i hp] at h⟩)
    · next hd => cases h; exact .inr (.inr ⟨hp, hd, rfl⟩)

/-- A CMD write at an issue whose operand set holds an UNDEF word is the model's fault UndefOperand (R104). -/
theorem writeCommand_faults {s : State} {c : Word} (h : s.faultsAtIssue c = true) :
    s.writeCommand c = .fault .undefOperand := by
  simp only [State.faultsAtIssue, State.operandUndef, State.busy, Bool.and_eq_true, beq_iff_eq, Bool.not_eq_true',
    Option.isSome_eq_false_iff, Option.isNone_iff_eq_none] at h
  obtain ⟨⟨ho, hp⟩, hd⟩ := h
  unfold State.writeCommand
  rw [hp]
  split at hd <;> simp_all [exec_of_idle, State.issue]

/-- Any other CMD write goes on: it is never a bus error (R103). -/
theorem writeCommand_completes {s : State} {c : Word} (h : s.faultsAtIssue c = false) :
    ∃ t, s.writeCommand c = .next t := by
  unfold State.writeCommand
  split
  · exact ⟨_, rfl⟩
  · next hp =>
    split
    · next i hc =>
      rw [exec_of_idle i hp]
      obtain ⟨-, -, h'⟩ | ⟨-, -, h'⟩ | ⟨hd, ho, -⟩ | ⟨-, -, h'⟩ := issue_cases s i
      · exact ⟨_, h'⟩
      · exact ⟨_, h'⟩
      · simp [State.faultsAtIssue, State.operandUndef, State.busy, hp, hc, hd, ho] at h
      · exact ⟨_, h'⟩
    · exact ⟨_, rfl⟩

/-- An accepted write goes on, but for the CMD write at which the model faults. -/
theorem writeTarget_completes {s : State} {q : Target} {d : Word} (h : q = .cmd → s.faultsAtIssue d = false) :
    ∃ t, s.writeTarget q d = .next t := by
  cases q
  case cmd => exact writeCommand_completes (h rfl)
  all_goals exact ⟨_, rfl⟩

/-- What an accepted write that goes on does, target by target (R101 to R103). A reserved target is never accepted. -/
theorem writeTarget_next {s t : State} {q : Target} {d : Word} (h : s.writeTarget q d = .next t) :
    (q = .ctrl ∧ t = s.writeCtrl d) ∨ (q = .status ∧ t = s.writeStatus d) ∨
      (q = .cmd ∧ s.writeCommand d = .next t) ∨ (∃ reg k, q = .slot reg k ∧ t = s.writeSlot reg k d) ∨
      ((q = .id ∨ q = .hwcfg ∨ q = .rflags ∨ q = .reserved) ∧ t = s) := by
  cases q <;> simp only [State.writeTarget] at h <;> first | (cases h; simp) | simp [h]

/-- A write to CTRL resets, or writes IE (R26, R27). -/
theorem writeCtrl_cases (s : State) (d : Word) :
    (d.getLsbD 1 = true ∧ s.writeCtrl d = s.hardReset) ∨
      (d.getLsbD 1 = false ∧ s.writeCtrl d = { s with ie := d.getLsbD 0 }) := by
  unfold State.writeCtrl
  cases h : d.getLsbD 1
  · exact .inr ⟨rfl, rfl⟩
  · exact .inl ⟨rfl, rfl⟩

/-- A write to a window slot does nothing, sets WBUSY, or writes the word (R42, R43, R102). -/
theorem writeSlot_cases (s : State) (q : Reg) (k : Nat) (d : Word) :
    ((s.hw.nw ≤ k ∨ isOperand q = false) ∧ s.writeSlot q k d = s) ∨
      (k < s.hw.nw ∧ isOperand q = true ∧ s.busy = true ∧ s.writeSlot q k d = { s with wbusy := true }) ∨
      (k < s.hw.nw ∧ isOperand q = true ∧ s.busy = false ∧ s.writeSlot q k d = s.setWord q k d) := by
  unfold State.writeSlot
  rcases Nat.lt_or_ge k s.hw.nw with hk | hk
  · cases hq : isOperand q <;> cases hb : s.busy <;> simp [hk, Nat.not_le.mpr hk]
  · simp [hk]

/-! ### Steps -/

/-- A step performs the next event. -/
theorem step_eq (s : State) : step s = s.taken.perform s.nextEvent := rfl

/-- The head of the schedule is the next step. -/
theorem step_of_cons {s : State} {ev : Event} {rest : List Event} (h : s.schedule = ev :: rest) :
    step s = { s with schedule := rest }.perform ev := by
  simp [step_eq, State.taken, State.nextEvent, h]

/-- With nothing scheduled the engine moves. -/
theorem step_of_empty {s : State} (h : s.schedule = []) : step s = s.engineStep := by
  have : s.taken = s := by rw [State.taken, h]; cases s; simp_all
  simp [step_eq, this, State.nextEvent, h, State.perform]

/-- The engine's step that goes on: a command completes, or nothing is in flight (R109). -/
theorem engineStep_next {s t : State} (h : s.engineStep = .next t) :
    (∃ i, s.pend = some i ∧ s.completeWith i (resultOf i) (freeOf i) = .next t) ∨ (s.pend = none ∧ t = s) := by
  unfold State.engineStep at h
  split at h
  · next i hp => rw [exec_of_pending hp] at h; exact .inl ⟨i, hp, h⟩
  · next hp => cases h; exact .inr ⟨hp, rfl⟩

/-- What a step that goes on can be: the engine's, a read, a write, or a hard reset. -/
theorem step_next {s t : State} (h : step s = .next t) :
    (s.nextEvent = .complete ∧ s.taken.engineStep = .next t) ∨
      (∃ addr size, s.nextEvent = .read addr size ∧ s.taken.busRead addr size = .next t) ∨
      (∃ addr size d, s.nextEvent = .write addr size d ∧ s.taken.busWrite addr size d = .next t) ∨
      (s.nextEvent = .hardReset ∧ t = s.taken.hardReset) := by
  rw [step_eq] at h
  cases hev : s.nextEvent with
  | read addr size => rw [hev] at h; exact .inr (.inl ⟨addr, size, rfl, h⟩)
  | write addr size d => rw [hev] at h; exact .inr (.inr (.inl ⟨addr, size, d, rfl, h⟩))
  | complete => rw [hev] at h; exact .inl ⟨rfl, h⟩
  | hardReset => rw [hev] at h; cases h; exact .inr (.inr (.inr ⟨rfl, rfl⟩))

end Sys2Proof.Machine
end

