-- ==== Sys2Proof/Laws/Invariant.lean ====
section
/-!
SUPPORT. The parts of the invariant, and what keeps each of them.
-/

namespace Sys2Proof.Machine

/-- A shaped state: legal parameters, and NW words in each register. -/
theorem shaped_iff (s : State) : s.Shaped = true ↔ s.hw.Legal = true ∧ ∀ q, (s.reg q).length = s.hw.nw := by
  simp only [State.Shaped, Bool.and_eq_true, beq_iff_eq, and_assoc]
  constructor
  · rintro ⟨h, h1, h2, h3, h4, h5, h6, h7, h8⟩
    exact ⟨h, fun q => by cases q <;> simpa⟩
  · rintro ⟨h, hq⟩
    exact ⟨h, hq .a, hq .b, hq .e, hq .n, hq .r, hq .g, hq .x, hq .y⟩

/-- Legal parameters have 1 to 256 words (R5). -/
theorem Params.nw_pos_of_legal {p : Params} (h : p.Legal = true) : 1 ≤ p.nw ∧ p.nw ≤ 256 := by
  simp only [Params.Legal, Bool.and_eq_true, decide_eq_true_eq] at h
  exact h.1

/-- A register of a shaped state holds a value below `2^W` (R10). -/
theorem val_lt_of_shaped {s : State} (h : s.Shaped = true) (q : Reg) : s.val q < 2 ^ s.hw.width := by
  have := wordsValue_lt (s.reg q)
  rwa [((shaped_iff s).mp h).2 q] at this

/-- With nothing in flight there is nothing to keep. -/
theorem flightOk_of_idle {s : State} (h : s.pend = none) : s.FlightOk = true := by simp [State.FlightOk, h]

/-- What is in flight stays so when a step keeps PEND, ERRCODE, CMDREG, the reading of R46 and the operands and does not
set DONE. -/
theorem flightOk_congr {s t : State} (h : s.FlightOk = true) (hp : t.pend = s.pend)
    (hd : s.done = false → t.done = false) (he : t.errcode = s.errcode) (hc : t.cmdreg = s.cmdreg)
    (ho : t.onUndef = s.onUndef) (hn : s.SameOperands t) : t.FlightOk = true := by
  unfold State.FlightOk at *
  rw [hp]
  cases hi : s.pend with
  | none => rfl
  | some i =>
    rw [hi] at h
    have hq : s.operandsDefined i = t.operandsDefined i ∧ s.regDefined .n = t.regDefined .n ∧ s.val .n = t.val .n := by
      obtain ⟨ha, hb, he', hn⟩ := hn
      cases i <;> simp [State.operandsDefined, operandRegs, State.regDefined, State.val, ha, hb, he', hn]
    simp only [State.modulusZero] at *
    simp_all

/-- The invariant stays when the parameters, the registers and the sign bits do and what is in flight is in order. -/
theorem inv_congr {s t : State} (h : s.Inv = true) (hw : t.hw = s.hw) (hq : ∀ q, t.reg q = s.reg q)
    (hx : t.xneg = s.xneg) (hy : t.yneg = s.yneg) (hf : t.FlightOk = true) : t.Inv = true := by
  simp only [State.Inv, Bool.and_eq_true] at h ⊢
  refine ⟨⟨⟨(shaped_iff t).mpr ?_, hf⟩, ?_⟩, ?_⟩
  · have := (shaped_iff s).mp h.1.1.1
    exact ⟨by rw [hw]; exact this.1, fun q => by rw [hq, hw]; exact this.2 q⟩
  · rw [State.val, hq, hx]; exact h.1.2
  · rw [State.val, hq, hy]; exact h.2

/-- Results that fit are below `2^W`, register by register. -/
theorem lt_of_fits {p : Params} {v : Option Nat} {k : Nat} (h : fitsWidth p v = true) (hv : v = some k) :
    k < 2 ^ (32 * p.nw) := by
  subst hv
  simpa [Params.width] using h

/-- A free coefficient's magnitude fits its register. -/
theorem freeCoefficient_lt (p : Params) (c : Nat) : (freeCoefficient p c).natAbs < 2 ^ (32 * p.nw) := by
  unfold freeCoefficient signedOperand
  split <;> simp [drawValue_lt]

/-- A stored coefficient has sign 0 when its magnitude is 0 (R36, R37). -/
theorem signOk_of_stored {z : Int} {nw : Nat} (h : z.natAbs < 2 ^ (32 * nw)) :
    signOk ⟨signFlag z, true⟩ (wordsValue (wordsOf nw z.natAbs)) = true := by
  rw [wordsValue_wordsOf h]
  simp [signOk, signFlag]
  omega

end Sys2Proof.Machine
end

