-- ==== Sys2Proof/Laws/PerInstr.lean ====
section
/-!
SUPPORT. One lemma for each command about its syntax: its word is legal by R89's bullets and its reserved bits are 0.
-/

namespace Sys2Proof.Laws.LegalWord

/-- The word of a well-formed command is legal (R89) and sets no reserved bit (R83). -/
def Statement (i : Instr) : Prop := i.WellFormed = true → legalCommand (encode i) = true ∧ rsvField (encode i) = 0#22

theorem modmul : Statement .modmul := fun _ => by decide

theorem modexp : Statement .modexp := fun _ => by decide

theorem extgcd (na nb : Bool) : Statement (.extgcd na nb) := fun _ => by cases na <;> cases nb <;> decide

theorem modinv : Statement .modinv := fun _ => by decide

end Sys2Proof.Laws.LegalWord
end

