-- ==== Sys2Proof/Tests/Slice0.lean ====
section
/-!
SUPPORT. The model's own tests: the checks refuse an ill-formed term each, words written out from the encoding decode, the
vectors of 95_test_vectors.md, and for each statement with hypotheses a state that meets them all.
-/

namespace Sys2Proof.Tests

open Sys2Proof.Machine

/-! ### The checks refuse -/

theorem test_params_legal : Params.reference.Legal = true ∧ Params.Legal ⟨1, .barrett, 0x4000⟩ = true := by decide
theorem test_params_nw_zero : Params.Legal ⟨0, .barrett, 0⟩ = false := by decide
theorem test_params_nw_over : Params.Legal ⟨257, .barrett, 0⟩ = false := by decide
theorem test_params_base_unaligned : Params.Legal ⟨1, .barrett, 0x2000⟩ = false := by decide
theorem test_word_op_zero : legalCommand 0x00000000#32 = false := by decide
theorem test_word_op_over : legalCommand 0x00000005#32 = false := by decide
theorem test_word_reserved : legalCommand 0x00000403#32 = false := by decide
theorem test_word_sign : legalCommand 0x00000101#32 = false := by decide
theorem test_shape_short_register : ({ State.reset with x := [] } : State).Shaped = false := by decide
theorem test_flight_zero_modulus :
    ({ State.resetOf ⟨1, .montgomery, 0⟩ with
        pend := some .modmul, cmdreg := 1#32, n := [⟨0#32, true⟩] } : State).FlightOk = false := by decide
theorem test_flight_undef_operand :
    ({ State.resetOf ⟨1, .montgomery, 0⟩ with pend := some .modinv, cmdreg := 4#32 } : State).FlightOk = false := by decide

/-! ### Words written out bit by bit from 30_encoding.md R80: {RSV (22), NB, NA, OP (8)} -/

theorem test_decode_modmul : decode (0#22 ++ 0b0#1 ++ 0b0#1 ++ 0x01#8) = some .modmul := by decide
theorem test_decode_modexp : decode (0#22 ++ 0b0#1 ++ 0b0#1 ++ 0x02#8) = some .modexp := by decide
theorem test_decode_extgcd_na : decode (0#22 ++ 0b0#1 ++ 0b1#1 ++ 0x03#8) = some (.extgcd true false) := by decide
theorem test_decode_extgcd_nb : decode (0#22 ++ 0b1#1 ++ 0b0#1 ++ 0x03#8) = some (.extgcd false true) := by decide
theorem test_decode_modinv : decode (0#22 ++ 0b0#1 ++ 0b0#1 ++ 0x04#8) = some .modinv := by decide
theorem test_decode_reserved_bit : decodeNamed (1#22 ++ 0b0#1 ++ 0b0#1 ++ 0x03#8) = .error .reservedBits := by decide
theorem test_decode_sign_bit : decodeNamed (0#22 ++ 0b0#1 ++ 0b1#1 ++ 0x01#8) = .error .signBits := by decide
theorem test_decode_no_op : decodeNamed 0x000000FF#32 = .error .noSuchOp := by decide
theorem test_decode_bytes : decodeBytes [0x03#8, 0x02#8, 0x00#8, 0x00#8, 0xAA#8] = .ok (.extgcd false true, [0xAA#8]) := by
  decide
theorem test_table_word : decodeTableWord 32 0x303 = some (.extgcd true true) ∧ decodeTableWord 32 5 = none := by decide

/-! ### Small states: W = 32, BASE = 0x4000 -/

/-- The configuration of the small states. -/
def small : Params := ⟨1, .barrett, 0x4000⟩

/-- An idle block with the four operands loaded. -/
def idle (a b e n : Nat) : State :=
  { State.resetOf ⟨1, .barrett, 0x4000⟩ with a := wordsOf 1 a, b := wordsOf 1 b, e := wordsOf 1 e, n := wordsOf 1 n }

/-- The same with a command in flight. -/
def flight (i : Instr) (a b e n : Nat) : State := { idle a b e n with pend := some i, cmdreg := encode i }

/-- The same with a schedule. -/
def planned (s : State) (evs : List Event) : State := { s with schedule := evs }

/-- What `f` sees of the next state, if there is one. -/
def seen {α : Type} (f : State → α) : Host.Outcome State Fault Refusal → Option α
  | .next t => some (f t)
  | .fault _ => none
  | .refused _ => none

/-- The fault of an outcome, if it is one. -/
def faulted : Host.Outcome State Fault Refusal → Option Fault
  | .next _ => none
  | .fault f => some f
  | .refused _ => none

/-- What a completion leaves: R, G, X, Y, the flags XNEG, YNEG, EARLY, and ERRCODE. -/
def results (t : State) : (Nat × Nat × Nat × Nat) × (Bool × Bool × Bool) × ErrorCode :=
  ((t.val .r, t.val .g, t.val .x, t.val .y), (t.xneg.bit, t.yneg.bit, t.early.bit), t.errcode)

/-! ### 95_test_vectors.md 2.1 to 2.4: completions -/

theorem test_modmul_unreduced :
    seen (·.val .r) (exec .modmul (flight .modmul 200 300 0 7)) = some 3 := by decide +kernel
theorem test_modmul_full_width :
    seen (·.val .r) (exec .modmul (flight .modmul 0xFFFFFFFF 0xFFFFFFFF 0 0xFFFFFFFB)) = some 16 := by decide +kernel
theorem test_modexp_scenario :
    seen (fun t => (t.val .r, t.early)) (exec .modexp (flight .modexp 4 0 13 497)) = some (445, ⟨false, true⟩) := by
  decide +kernel
theorem test_modexp_early_zero :
    seen (fun t => (t.val .r, t.early)) (exec .modexp (flight .modexp 2 0 5 16)) = some (0, ⟨true, true⟩) := by
  decide +kernel
theorem test_extgcd_scenario :
    seen results (exec (.extgcd false false) (flight (.extgcd false false) 17 3120 0 0)) =
      some ((0, 1, 367, 2), (true, false, false), .noError) := by decide +kernel
theorem test_extgcd_negative_b :
    seen results (exec (.extgcd false true) (flight (.extgcd false true) 12 18 0 0)) =
      some ((0, 6, 1, 1), (true, true, false), .noError) := by decide +kernel
theorem test_modinv_scenario :
    seen results (exec .modinv (flight .modinv 17 0 0 3120)) =
      some ((2753, 1, 367, 2), (true, false, false), .noError) := by decide +kernel
theorem test_modinv_none :
    seen (fun t => (t.errcode, t.val .g, t.r)) (exec .modinv (flight .modinv 4 0 0 8)) =
      some (.noModularInverse, 4, [DataWord.undef]) := by decide +kernel

/-! ### 95_test_vectors.md 2.5 and 2.6: issue and the port -/

/-- A machine that goes on at an UNDEF operand word, as R46 says of the hardware (log 5). -/
def goesOn (s : State) : State := { s with onUndef := .hardwareGoesOn }

/-- What one step answers and leaves of the status. -/
def portView (t : State) : Option Response × Word := (t.resp, t.statusWord)

theorem test_issue_zero_modulus :
    seen portView (step (planned (idle 3 4 0 0) [hostIssue ⟨1, .barrett, 0x4000⟩ .modmul])) =
      some (some .okay, 0x00000026#32) := by decide +kernel
theorem test_issue_illegal :
    seen (fun t => (portView t, t.cmdreg)) (step (planned State.reset [hostWR Params.reference 0x010 0x00000101#32])) =
      some ((some .okay, 0x00000016#32), 0x00000101#32) := by decide +kernel
theorem test_issue_runs_from_reset :
    (seen (·.cmdreg) (step (State.reset.withFetchWord 32 1)), seen (·.cmdreg) (step (State.reset.withFetchWord 32 2)),
      seen (·.pend) (step (State.reset.withFetchWord 32 3)), seen (·.cmdreg) (step (State.reset.withFetchWord 32 4))) =
      (some 1#32, some 2#32, some (some (.extgcd false false)), some 4#32) := by decide +kernel
/-- R204, step 3: until the operands are loaded the model faults at issue; an illegal word is reported first (R181). -/
theorem test_issue_from_reset_faults :
    faulted (step (planned State.reset [hostWR Params.reference 0x010 1#32])) = some .undefOperand ∧
      faulted (step (planned State.reset [hostWR Params.reference 0x010 0x303#32])) = some .undefOperand ∧
      seen (·.errcode) (step (planned State.reset [hostWR Params.reference 0x010 0#32])) = some .illegalCommand := by
  decide +kernel
/-- R181: the UNDEF operand word comes before N = 0. -/
theorem test_undef_operand_before_modulus :
    faulted (exec .modmul { idle 3 4 5 0 with b := undefReg 1 }) = some .undefOperand := by decide +kernel
theorem test_read_id :
    seen (·.resp) (step (planned State.reset [hostRD Params.reference 0x000])) = some (some (.data 0x52534131#32)) := by
  decide +kernel
theorem test_read_hwcfg :
    hwcfgWord ⟨64, .montgomery, 0⟩ = 0x00000040#32 ∧ hwcfgWord ⟨64, .barrett, 0⟩ = 0x00010040#32 := by decide
theorem test_status_word_and_ack :
    let s : State := { State.reset with done := true, ovr := true, wbusy := true, errcode := .noModularInverse }
    s.statusWord = 0x00030036#32 ∧ (s.writeStatus 0x00000002#32).statusWord = 0x00030034#32 ∧
      ((s.writeStatus 0x00000002#32).writeStatus 0x00030000#32).statusWord = 0x00000034#32 := by decide +kernel
theorem test_slot_from_nw_on :
    seen (·.resp) (step (planned (idle 1 2 3 4) [hostRD ⟨1, .barrett, 0x4000⟩ 0x0404])) =
      some (some (.data 0#32)) := by decide +kernel
theorem test_slverr :
    ([0x018, 0x3FC, 0x2400, 0x3FFC, 0x0402].map fun off =>
      seen (·.resp) (step (planned (idle 1 2 3 4) [.read (0x4000 + off) 4]))) =
      List.replicate 5 (some (some .slverr)) := by decide +kernel
theorem test_narrow_write :
    seen (fun t => (t.resp, t.cmdreg)) (step (planned (idle 1 2 3 4) [.write 0x4010 1 0x00000001#32])) =
      some (some .slverr, 0#32) := by decide +kernel
theorem test_busy_drops :
    let s := flight .modexp 3 0 5 7
    seen (fun t => (t.ovr, t.cmdreg)) (step (planned s [hostWR s.hw 0x010 1#32])) = some (true, 2#32) ∧
      seen (fun t => (t.wbusy, t.val .a)) (step (planned s [hostWR s.hw 0x400 7#32])) = some (true, 3) := by
  decide +kernel
theorem test_soft_reset :
    let s := { flight .modexp 3 0 5 7 with ie := true }
    seen (fun t => (t.ie, t.statusWord, t.a)) (step (planned s [hostWR s.hw 0x008 3#32])) =
      some (false, 0#32, [DataWord.undef]) := by decide +kernel
theorem test_spelling : commandSpelling (.extgcd true true) = "EXTGCD.NA.NB" := by decide
theorem test_load_words : hostLoad ⟨2, .barrett, 0⟩ .a 0x100000002 =
    [.write 0x400 4 2#32, .write 0x404 4 1#32] := by decide +kernel

/-! ### Witnesses: for each statement with hypotheses, states that meet all of them (for each of its clauses) -/

/-- A next state seen whole is the next state. -/
theorem next_of_seen {o : Host.Outcome State Fault Refusal} {t : State} (h : seen id o = some t) : o = .next t := by
  cases o <;> simp_all [seen]

/-- A step that goes on from a state with property `P`. -/
def Goes (s : State) (P : State → State → Prop) : Prop := ∃ t, step s = .next t ∧ P s t

theorem witness_IllegalWordsAreAllButSeven : State.reset.pend = none ∧ decode 0x00000005#32 = none := by decide

theorem witness_StepRunsTheDecodedCommand :
    let s := planned (idle 3 4 5 7) [hostWR small 0x010 3#32]
    s.schedule = hostWR s.hw 0x010 3#32 :: [] ∧ s.pend = none ∧ decode 3#32 = some (.extgcd false false) := by decide

theorem witness_StepCompletesTheCommandInFlight :
    ((flight .modinv 3 4 5 7).nextEvent = .complete ∧ (flight .modinv 3 4 5 7).pend = some .modinv) ∧
      (planned (flight .modmul 3 4 5 7) [.complete, .hardReset]).nextEvent = .complete := by decide

theorem witness_IssuePutsTheCommandInFlight :
    (idle 3 4 5 1).pend = none ∧ (idle 3 4 5 1).operandsDefined .modexp = true ∧
      (usesModulus .modexp = true → (idle 3 4 5 1).val .n ≠ 0) ∧
      (idle 3 4 5 0).operandsDefined (.extgcd true false) = true ∧
      (usesModulus (.extgcd true false) = true → (idle 3 4 5 0).val .n ≠ 0) := by decide +kernel

/-- The other clauses of IssuePutsTheCommandInFlight: N = 0, an UNDEF operand word, an illegal and a legal word. -/
theorem witness_IssuePutsTheCommandInFlight_ends :
    ((idle 3 4 5 0).pend = none ∧ (idle 3 4 5 0).operandsDefined .modinv = true ∧ usesModulus .modinv = true ∧
        (idle 3 4 5 0).val .n = 0) ∧
      (State.reset.pend = none ∧ State.reset.operandsDefined .modexp = false ∧ State.reset.onUndef = .modelFaults) ∧
      (Params.Legal small = true ∧ faulted (exec (.extgcd true false) (State.resetOf small)) = some .undefOperand) ∧
      decode 0x00000101#32 = none ∧ decode 0x00000103#32 = some (.extgcd true false) := by decide +kernel

theorem witness_ZeroModulusIsRefusedAtIssue :
    ((idle 3 4 5 0).pend = none ∧ (idle 3 4 5 0).operandsDefined .modexp = true ∧ (idle 3 4 5 0).val .n = 0) ∧
      (∃ t, exec (.extgcd true false) (idle 3 4 5 0) = .next t) ∧
      (∃ t, exec (.extgcd true false) (flight (.extgcd true false) 3 4 5 0) = .next t) :=
  ⟨by decide +kernel, ⟨_, rfl⟩, ⟨_, rfl⟩⟩

theorem witness_IllegalWordEndsAtOnce :
    let s := planned (idle 3 4 5 0) [hostWR small 0x010 0#32]
    s.schedule = hostWR s.hw 0x010 0#32 :: [] ∧ s.pend = none ∧ decode 0#32 = none := by decide

theorem witness_CommandWhileBusyOnlySetsOvr :
    let s := planned (flight .modexp 3 4 5 7) [hostWR small 0x010 2#32]
    s.schedule = hostWR s.hw 0x010 2#32 :: [] ∧ s.pend ≠ none := by decide

theorem witness_UndefOperandIssueGoesOn :
    let s := goesOn { idle 3 4 5 0 with a := undefReg 1 }
    (s.pend = none ∧ s.operandsDefined .modmul = false ∧ s.onUndef = .hardwareGoesOn) ∧
      s.operandsDefined (.extgcd true true) = false ∧
      (usesModulus .modmul = true ∧ s.regDefined .n = true ∧ s.val .n = 0) := by decide +kernel

theorem witness_ModmulWritesTheResidue :
    let s := flight .modmul 0xFFFFFFFF 0xFFFFFFFF 0 1
    s.Shaped = true ∧ s.pend = some .modmul ∧ s.operandsDefined .modmul = true ∧ s.val .n ≠ 0 := by decide +kernel

theorem witness_ModmulLaws : (1 : Nat) ≠ 0 := by decide

theorem witness_ModexpWritesThePower :
    let s := flight .modexp 0 0 0 1
    s.Shaped = true ∧ s.pend = some .modexp ∧ s.operandsDefined .modexp = true ∧ s.val .n ≠ 0 := by decide +kernel

theorem witness_ModexpEarlyIsExact :
    ∃ t, (flight .modexp 2 0 5 16).pend = some .modexp ∧ (flight .modexp 2 0 5 16).operandsDefined .modexp = true ∧
      (flight .modexp 2 0 5 16).val .n ≠ 0 ∧ exec .modexp (flight .modexp 2 0 5 16) = .next t :=
  ⟨_, by decide, by decide, by decide +kernel, rfl⟩

theorem witness_ModexpLoopUnrolls : modexpFuel 1 ≤ 1 ∧ modexpFuel 13 ≤ 4 := by decide +kernel

theorem witness_ExtgcdWritesTheTriple :
    let s := flight (.extgcd true false) 12 18 0 0
    s.Shaped = true ∧ s.pend = some (.extgcd true false) ∧ s.operandsDefined (.extgcd true false) = true ∧
      egcd (s.val .a) true (s.val .b) false = (6, 1, 1) := by decide +kernel

theorem witness_ExtgcdBezoutLaw :
    let s := flight (.extgcd true true) 0 0 0 0
    s.Shaped = true ∧ s.pend = some (.extgcd true true) ∧ s.operandsDefined (.extgcd true true) = true := by decide

theorem witness_EgcdOutputsFit : egcd 17 false 3120 false = (1, -367, 2) ∧ 32 ≤ 32 ∧ 17 < 2 ^ 32 ∧ 3120 < 2 ^ 32 := by
  decide +kernel

theorem witness_EgcdLoopUnrolls : egcdFuel 0 ≤ 3 ∧ egcdFuel 3120 ≤ 25 := by decide +kernel

theorem witness_EgcdCornerCases : (1 : Nat) ≠ 0 := by decide

theorem witness_NegativeZeroIsZero :
    let s := flight (.extgcd true true) 0 5 0 0
    let u := flight (.extgcd true true) 5 0 0 0
    (s.Shaped = true ∧ s.pend = some (.extgcd true true) ∧ s.operandsDefined (.extgcd true true) = true ∧
      s.val .a = 0) ∧ (u.Shaped = true ∧ u.val .b = 0) ∧
      seen (·.val .x) (exec (.extgcd true true) s) = some 0 ∧ seen (·.val .y) (exec (.extgcd true true) u) = some 0 := by
  decide +kernel

theorem witness_ModinvWritesTheInverse :
    let s := flight .modinv 17 0 0 3120
    (s.Shaped = true ∧ s.pend = some .modinv ∧ s.operandsDefined .modinv = true ∧ s.val .n ≠ 0 ∧
      egcd (s.val .a) false (s.val .n) false = (1, -367, 2)) ∧ egcd 4 false 8 false = (4, 1, 0) := by decide +kernel

theorem witness_ModinvLaws :
    (let s := flight .modinv 5 0 0 1
     s.Shaped = true ∧ s.pend = some .modinv ∧ s.operandsDefined .modinv = true ∧ s.val .n ≠ 0 ∧
       seen (·.errcode) (exec .modinv s) = some .noError) ∧
      seen (·.errcode) (exec .modinv (flight .modinv 0 0 0 5)) = some .noModularInverse := by decide +kernel

theorem witness_NoModularInverseIsRaisedByModinvOnly :
    (let s := flight .modinv 0 0 0 2
     s.Shaped = true ∧ s.pend = some .modinv ∧ s.operandsDefined .modinv = true ∧ s.val .n ≠ 0 ∧
       Nat.gcd (s.val .a) (s.val .n) ≠ 1) ∧
      (∃ t, exec (.extgcd false false) (flight (.extgcd false false) 4 8 0 0) = .next t) ∧
      (∃ t, exec (.extgcd false false) (idle 4 8 0 0) = .next t) :=
  ⟨by decide +kernel, ⟨_, rfl⟩, ⟨_, rfl⟩⟩

theorem witness_UndefOperandCompletionGoesOn :
    [Instr.modmul, .modexp, .extgcd false true, .modinv].all (fun i =>
      let s := goesOn { flight i 3 4 5 7 with a := undefReg 1 }
      s.pend = some i && s.operandsDefined i = false && s.Inv) = true := by decide +kernel

theorem witness_NoCommandWritesAnOperand : ∃ t, exec .modmul (flight .modexp 3 4 5 7) = .next t := ⟨_, rfl⟩

theorem witness_TransactionsDoNotDisturbACommand :
    let s := planned (flight .modexp 3 4 5 7) [hostWR small 0x400 9#32, hostRD small 0x1400, hostWR small 0x010 1#32, .complete]
    s.Inv = true ∧ s.pend = some .modexp ∧ s.operandsDefined .modexp = true ∧
      [hostWR small 0x400 9#32, hostRD small 0x1400, hostWR small 0x010 1#32].all (isQuiet s.hw) = true ∧
      s.schedule = [hostWR small 0x400 9#32, hostRD small 0x1400, hostWR small 0x010 1#32] ++ .complete :: [] := by
  decide +kernel

theorem witness_ModexpRunsFromIssueToResult :
    let s := planned (idle 4 0 13 497) [hostIssue small .modexp, .complete]
    s.Shaped = true ∧ s.pend = none ∧ s.operandsDefined .modexp = true ∧ s.val .n ≠ 0 ∧
      s.schedule = hostIssue s.hw .modexp :: .complete :: [] := by decide +kernel

theorem witness_AddressMapOfWindows : target (slotOffset .y 255) = .slot .y 255 ∧ target (slotOffset .a 0) = .slot .a 0 := by
  decide +kernel

/-- R64 and R65's clauses at the ends of their ranges. -/
theorem witness_RefusedAccessHasNoEffect :
    (∀ off ∈ [0x018, 0x3FC, 0x2400, 0x3FFC], off < 0x4000 ∧ ((0x018 ≤ off ∧ off ≤ 0x3FC) ∨ 0x2400 ≤ off)) ∧
      (planned (idle 1 2 3 4) [.read (0x4000 + 0x010) 1]).schedule = .read (small.base + 0x010) 1 :: [] ∧
      (planned (idle 1 2 3 4) [.write (0x4000 + 0x402) 4 0#32]).schedule = .write (small.base + 0x402) 4 0#32 :: [] := by
  decide

theorem witness_AlignedMappedAccessIsAccepted :
    (∀ off ∈ [0x000, 0x014, 0x400, 0x23FC], off % 4 = 0 ∧ (off < 0x018 ∨ (0x400 ≤ off ∧ off < 0x2400))) ∧
      (planned (idle 1 2 3 4) [hostRD small 0x014]).schedule = hostRD small 0x014 :: [] ∧
      (planned (idle 1 2 3 4) [hostWR small 0x400 1#32]).schedule = hostWR small 0x400 1#32 :: [] ∧
      (planned (idle 1 2 3 4) [hostWR small 0x010 1#32]).faultsAtIssue 1#32 = false ∧
      (planned State.reset [hostWR small 0x010 0#32]).faultsAtIssue 0#32 = false := by decide

theorem witness_ReadsHaveNoSideEffects :
    inAperture small 0x4000 = true ∧ inAperture small 0x7FFF = true ∧ inAperture small 0x3FFF = false ∧
      inAperture small 0x8000 = false ∧ (planned (idle 1 2 3 4) [.read 0x7FFF 1]).schedule = .read 0x7FFF 1 :: [] := by
  decide

theorem witness_IdAndHwcfgAreConstant :
    (idle 1 2 3 4).Shaped = true ∧
      (planned (idle 1 2 3 4) [hostRD small 0x000]).schedule = hostRD small 0x000 :: [] ∧
      (planned (idle 1 2 3 4) [hostRD small 0x004]).schedule = hostRD small 0x004 :: [] ∧
      (planned (idle 1 2 3 4) [hostWR small 0x004 1#32]).schedule = hostWR small 0x004 1#32 :: [] := by decide

theorem witness_CtrlWritesAndReadsIe :
    ((planned (idle 1 2 3 4) [hostWR small 0x008 1#32]).schedule = hostWR small 0x008 1#32 :: [] ∧
      (1#32).getLsbD 1 = false) ∧
      (planned (idle 1 2 3 4) [hostRD small 0x008]).schedule = hostRD small 0x008 :: [] := by decide

theorem witness_StatusReadsAndAcknowledges :
    (planned (idle 1 2 3 4) [hostWR small 0x00C 0x00030002#32]).schedule = hostWR small 0x00C 0x00030002#32 :: [] ∧
      (planned (idle 1 2 3 4) [hostRD small 0x00C]).schedule = hostRD small 0x00C :: [] := by decide

theorem witness_CmdReadsBackTheLastAcceptedWord :
    ((planned (idle 1 2 3 4) [hostWR small 0x010 1#32]).schedule = hostWR small 0x010 1#32 :: [] ∧
        (idle 1 2 3 4).faultsAtIssue 1#32 = false ∧ (flight .modmul 1 2 3 4).faultsAtIssue 1#32 = false) ∧
      (planned (idle 1 2 3 4) [hostRD small 0x010]).schedule = hostRD small 0x010 :: [] := by decide

/-- The clause over every step: a busy CMD write, and a step of another kind on an idle block. -/
theorem witness_CmdReadsBackTheLastAcceptedWord_kept :
    Goes (planned (flight .modmul 1 2 3 4) [hostWR small 0x010 2#32]) (fun s _ =>
        isReset s.hw s.nextEvent = false ∧ ¬ (s.busy = false ∧ isCommandWrite s.hw s.nextEvent = true)) ∧
      Goes (planned (idle 1 2 3 4) [hostWR small 0x00C 2#32]) (fun s _ =>
        isReset s.hw s.nextEvent = false ∧ ¬ (s.busy = false ∧ isCommandWrite s.hw s.nextEvent = true)) :=
  ⟨⟨_, rfl, by decide +kernel⟩, ⟨_, rfl, by decide +kernel⟩⟩

theorem witness_RflagsReadsItsBits :
    let s : State := { idle 1 2 3 4 with xneg := ⟨true, true⟩, yneg := ⟨true, true⟩, early := ⟨false, true⟩ }
    ((planned s [hostRD small 0x014]).schedule = hostRD small 0x014 :: [] ∧ s.busy = false ∧ s.xneg.defined = true ∧
      s.yneg.defined = true ∧ s.early.defined = true) ∧
      (planned s [hostWR small 0x014 7#32]).schedule = hostWR small 0x014 7#32 :: [] := by decide

theorem witness_OperandWindowWrite :
    ((planned (idle 1 2 3 4) [hostWR small (slotOffset .n 0) 9#32]).schedule =
        hostWR small (slotOffset .n 0) 9#32 :: [] ∧ (idle 1 2 3 4).Shaped = true) ∧
      ((planned (flight .modmul 1 2 3 4) [hostWR small (slotOffset .a 0) 9#32]).busy = true ∧
        (flight .modmul 1 2 3 4).Shaped = true) ∧
      ((planned (idle 1 2 3 4) [hostWR small (slotOffset .e 255) 9#32]).hw.nw ≤ 255) := by decide

theorem witness_WindowSlotReadsItsWord :
    let s : State := { State.resetOf ⟨2, .barrett, 0x4000⟩ with r := [⟨6#32, true⟩, DataWord.undef] }
    (s.Shaped = true ∧ 0 < s.hw.nw ∧ (s.reg .r)[0]? = some ⟨6#32, true⟩ ∧ s.regDefined .r = false ∧ s.busy = false ∧
      (planned s [hostRD s.hw (slotOffset .r 0)]).schedule = hostRD s.hw (slotOffset .r 0) :: []) ∧
      ((flight .modmul 1 2 3 4).reg .a)[0]? = some ⟨1#32, true⟩ := by decide +kernel

theorem witness_SlotsFromNwOnAreRazWi :
    (idle 1 2 3 4).hw.nw ≤ 1 ∧
      (planned (idle 1 2 3 4) [hostRD small (slotOffset .x 1)]).schedule = hostRD small (slotOffset .x 1) :: [] ∧
      (planned (idle 1 2 3 4) [hostWR small (slotOffset .a 255) 5#32]).schedule =
        hostWR small (slotOffset .a 255) 5#32 :: [] := by decide

theorem witness_ResultWindowsIgnoreWrites :
    (planned (idle 1 2 3 4) [hostWR small (slotOffset .y 0) 5#32]).schedule = hostWR small (slotOffset .y 0) 5#32 :: [] := by
  decide

theorem witness_LoadWritesTheWholeRegister :
    let s := planned (idle 1 2 3 4) (hostLoad small .e 0xFFFFFFFF)
    s.Shaped = true ∧ s.pend = none ∧ 0xFFFFFFFF < 2 ^ s.hw.width ∧ s.schedule = hostLoad s.hw .e 0xFFFFFFFF ++ [] := by
  decide +kernel

theorem witness_InterruptFollowsIeAndDone :
    (∃ t, exec .modmul (flight .modmul 1 2 3 4) = .next t) ∧
      Goes (planned (idle 1 2 3 4) [hostWR small 0x00C 2#32]) (fun s _ => isStatusClear s.hw 1 s.nextEvent = true) ∧
      Goes (planned (idle 1 2 3 4) [.hardReset]) (fun s _ => isReset s.hw s.nextEvent = true) ∧
      Goes (planned (idle 1 2 3 4) [hostWR small 0x008 0#32])
        (fun s _ => isWriteTo s.hw .ctrl (fun d => !d.getLsbD 0) s.nextEvent = true) ∧
      Goes (planned (idle 1 2 3 4) [hostWR small 0x010 3#32])
        (fun s t => isCommandWrite s.hw s.nextEvent = true ∧ s.busy = false ∧ t.busy = true) ∧
      Goes (planned (idle 1 2 3 0) [hostWR small 0x010 1#32])
        (fun s t => isCommandWrite s.hw s.nextEvent = true ∧ s.busy = false ∧ t.busy = false) ∧
      Goes (planned (idle 1 2 3 4) [hostWR small 0x008 1#32])
        (fun s _ => isWriteTo s.hw .ctrl (fun d => !d.getLsbD 1 && d.getLsbD 0) s.nextEvent = true) :=
  ⟨⟨_, rfl⟩, ⟨_, rfl, by decide⟩, ⟨_, rfl, by decide⟩, ⟨_, rfl, by decide⟩, ⟨_, rfl, by decide +kernel⟩,
    ⟨_, rfl, by decide +kernel⟩, ⟨_, rfl, by decide⟩⟩

theorem witness_HardResetStep :
    (planned (flight .modmul 1 2 3 4) [.hardReset]).schedule = .hardReset :: [] := by decide

theorem witness_SoftResetStep :
    (planned (flight .modmul 1 2 3 4) [hostWR small 0x008 3#32]).schedule = hostWR small 0x008 3#32 :: [] ∧
      (3#32).getLsbD 1 = true := by decide

theorem witness_OutsideApertureFaults :
    eventInAperture small (planned (idle 1 2 3 4) [.read 0x8000 4]).nextEvent = false ∧
      eventInAperture small (planned (idle 1 2 3 4) [.write 0x3FFF 4 0#32]).nextEvent = false := by decide

theorem witness_NothingElseStops :
    let s := flight (.extgcd true true) 0xFFFFFFFF 0xFFFFFFFE 0 0
    (s.Inv = true ∧ eventInAperture s.hw s.nextEvent = true ∧ s.faultsNext = false) ∧
      (let u := planned State.reset [hostWR Params.reference 0x010 4#32]
       u.Inv = true ∧ eventInAperture u.hw u.nextEvent = true ∧ u.faultsNext = true) := by decide +kernel

theorem witness_ResetHasTheInvariant : Params.Legal ⟨1, .montgomery, 0⟩ = true ∧ Params.Legal ⟨256, .barrett, 0x8000⟩ = true := by
  decide

/-- A state with the invariant and an idle step: the hypotheses of the statements over every step. -/
theorem witness_EveryStepKeepsTheInvariant :
    ∃ t, (flight .modmul 1 2 3 4).Inv = true ∧ step (flight .modmul 1 2 3 4) = .next t :=
  ⟨_, by decide +kernel, rfl⟩

theorem witness_ParametersNeverChange : Goes (planned (idle 1 2 3 4) [.hardReset]) fun _ _ => True := ⟨_, rfl, trivial⟩

theorem witness_OnlyWindowWritesChangeOperands :
    Goes (planned (idle 1 2 3 4) [hostWR small 0x400 9#32]) fun s t => ¬ s.SameOperands t :=
  ⟨{ idle 9 2 3 4 with resp := some .okay }, next_of_seen (by decide +kernel), fun h => (show wordsOf 1 1 ≠ wordsOf 1 9 by decide +kernel) h.1⟩

theorem witness_OnlyCompletionChangesResults : Goes (flight .modmul 1 2 3 4) fun s t => ¬ s.SameResults t :=
  ⟨_, rfl, fun h => (show undefReg 1 ≠ wordsOf 1 2 by decide +kernel) h.1⟩

theorem witness_BusyRisesAtIssueAndFallsAtEnd :
    Goes (flight .modmul 1 2 3 4) (fun s t => s.busy = true ∧ t.busy = false) ∧
      Goes (planned (idle 1 2 3 4) [hostWR small 0x010 4#32]) (fun s t => s.busy = false ∧ t.busy = true) :=
  ⟨⟨_, rfl, by decide +kernel⟩, ⟨_, rfl, by decide +kernel⟩⟩

theorem witness_OnlyCommandsWriteDoneAndErrcode :
    Goes (planned (flight .modmul 1 2 3 4) [hostWR small 0x00C 0#32]) fun s _ =>
      isReset s.hw s.nextEvent = false ∧ ¬ (s.busy = true ∧ s.nextEvent = .complete) ∧
        ¬ (s.busy = false ∧ isCommandWrite s.hw s.nextEvent = true) ∧ isStatusClear s.hw 1 s.nextEvent = false :=
  ⟨_, rfl, by decide +kernel⟩

theorem witness_StickyBits :
    Goes (planned (flight .modmul 1 2 3 4) [hostWR small 0x010 0#32]) (fun s _ => isReset s.hw s.nextEvent = false) ∧
      Goes (planned (flight .modmul 1 2 3 4) [hostWR small 0x008 2#32]) (fun s _ => isReset s.hw s.nextEvent = true) :=
  ⟨⟨_, rfl, by decide +kernel⟩, ⟨_, rfl, by decide +kernel⟩⟩

theorem witness_OnlyCtrlWritesChangeIe :
    Goes (planned (idle 1 2 3 4) [hostWR small 0x008 1#32]) fun s t => t.ie ≠ s.ie :=
  ⟨_, rfl, by decide +kernel⟩

theorem witness_UndefOperandIsRecordedAtIssueOnly :
    Goes (planned (goesOn State.reset) [hostWR Params.reference 0x010 3#32]) fun s t => s.Loaded = true ∧ t.Loaded = false :=
  ⟨_, rfl, by decide +kernel⟩

end Sys2Proof.Tests
end

/-! ### Scope (00_scope.md): RED is invisible to the commands, and no step changes a parameter -/

namespace Sys2Proof.Machine

/-! #### What a command does not read: RED (R7, R111) -/

/-- The same state on hardware with reduction method `red` (R7). -/
def State.withRed (s : State) (red : Reduction) : State := { s with hw := { s.hw with red := red } }

/-- An outcome with its next state, if it has one, mapped by `f`. -/
def mapNext (f : State → State) : Host.Outcome State Fault Refusal → Host.Outcome State Fault Refusal
  | .next t => .next (f t)
  | .fault r => .fault r
  | .refused r => .refused r

@[simp] theorem mapNext_next (f : State → State) (t : State) : mapNext f (.next t) = .next (f t) := rfl
@[simp] theorem mapNext_fault (f : State → State) (r : Fault) : mapNext f (.fault r) = .fault r := rfl
@[simp] theorem mapNext_refused (f : State → State) (r : Refusal) : mapNext f (.refused r) = .refused r := rfl

@[simp] theorem State.withRed_pend (s : State) (red : Reduction) : (s.withRed red).pend = s.pend := rfl
@[simp] theorem State.withRed_draws (s : State) (red : Reduction) : (s.withRed red).draws = s.draws := rfl
@[simp] theorem State.withRed_onUndef (s : State) (red : Reduction) : (s.withRed red).onUndef = s.onUndef := rfl
@[simp] theorem State.withRed_operands (s : State) (red : Reduction) : (s.withRed red).operands = s.operands := rfl
@[simp] theorem State.withRed_operandsDefined (s : State) (red : Reduction) (i : Instr) :
    (s.withRed red).operandsDefined i = s.operandsDefined i := rfl
@[simp] theorem State.withRed_modulusZero (s : State) (red : Reduction) (i : Instr) :
    (s.withRed red).modulusZero i = s.modulusZero i := rfl

/-- Whether results fit depends on W only (R152). -/
@[simp] theorem State.fits_withRed (s : State) (red : Reduction) (res : Results) :
    res.fits (s.withRed red).hw = res.fits s.hw := rfl

/-- The free results of a command are made from W and the draws, not from RED (R46). -/
@[simp] theorem State.freeOf_withRed (s : State) (red : Reduction) (i : Instr) (c : Nat) :
    freeOf i (s.withRed red).hw c = freeOf i s.hw c := by
  cases i <;> rfl

/-! Every update a command makes commutes with a change of RED. -/

@[simp] theorem State.acceptCommand_withRed (s : State) (red : Reduction) (c : Word) :
    (s.withRed red).acceptCommand c = (s.acceptCommand c).withRed red := rfl
@[simp] theorem State.startCommand_withRed (s : State) (red : Reduction) (i : Instr) :
    (s.withRed red).startCommand i = (s.startCommand i).withRed red := rfl
@[simp] theorem State.endCommand_withRed (s : State) (red : Reduction) (code : ErrorCode) :
    (s.withRed red).endCommand code = (s.endCommand code).withRed red := rfl
@[simp] theorem State.issueUndef_withRed (s : State) (red : Reduction) (i : Instr) :
    (s.withRed red).issueUndef i = (s.issueUndef i).withRed red := rfl
@[simp] theorem State.dropCommand_withRed (s : State) (red : Reduction) :
    (s.withRed red).dropCommand = s.dropCommand.withRed red := rfl
@[simp] theorem State.writeResults_withRed (s : State) (red : Reduction) (res : Results) :
    (s.withRed red).writeResults res = (s.writeResults res).withRed red := rfl
@[simp] theorem State.finishUndef_withRed (s : State) (red : Reduction) (res : Results) :
    (s.withRed red).finishUndef res = (s.finishUndef res).withRed red := rfl

/-- An issue goes the same way whatever RED is. -/
theorem issue_withRed (s : State) (red : Reduction) (i : Instr) :
    (s.withRed red).issue i = mapNext (·.withRed red) (s.issue i) := by
  obtain ⟨hd, hz, -⟩ | ⟨hd, hz, -⟩ | ⟨hd, ho, -⟩ | ⟨hd, ho, -⟩ := issue_cases s i
  · simp [State.issue, hd, hz]
  · simp [State.issue, hd, hz]
  · simp [State.issue, hd, ho]
  · simp [State.issue, hd, ho]

/-- A completion goes the same way whatever RED is. -/
theorem completeWith_withRed (s : State) (red : Reduction) (i : Instr) :
    (s.withRed red).completeWith i (resultOf i) (freeOf i) =
      mapNext (·.withRed red) (s.completeWith i (resultOf i) (freeOf i)) := by
  obtain ⟨hd, hz, -⟩ | ⟨hd, hz, hf, -⟩ | ⟨hd, hz, hf, -⟩ | ⟨hd, -⟩ :=
    completeWith_cases s i (resultOf i) (freeOf i)
  · simp [State.completeWith, hd, hz]
  · simp [State.completeWith, State.finish, hd, hz, hf]
  · simp [State.completeWith, State.finish, hd, hz, hf]
  · simp [State.completeWith, hd]

/-- `exec` commutes with a change of RED: at an issue, at a completion and at a dropped CMD write. -/
theorem exec_withRed (s : State) (red : Reduction) (i : Instr) :
    exec i (s.withRed red) = mapNext (·.withRed red) (exec i s) := by
  simp only [exec_eq_runCommand, runCommand, State.withRed_pend]
  cases s.pend with
  | none => exact issue_withRed s red i
  | some j =>
    by_cases hj : j = i
    · simpa [hj] using completeWith_withRed s red i
    · simp [hj]

/-- Settles O28: every step of a command's meaning commutes with `State.withRed`. -/
theorem reductionMethodIsInvisible : Obligations.ReductionMethodIsInvisible := by
  intro s i red
  refine (exec_withRed s red i).trans ?_
  cases exec i s <;> rfl

/-! #### What no step writes: the parameters (R5 to R7) and the reading of R46 (log 5) -/

/-- The parameters, and the model's own reading of R46, are the same in both states. -/
def State.SameConstants (s t : State) : Prop := t.hw = s.hw ∧ t.onUndef = s.onUndef

theorem State.SameConstants.trans {s t u : State} (h : s.SameConstants t) (h' : t.SameConstants u) :
    s.SameConstants u :=
  ⟨h'.1.trans h.1, h'.2.trans h.2⟩

theorem taken_sameConstants (s : State) : s.SameConstants s.taken := ⟨rfl, rfl⟩

theorem answered_sameConstants (s : State) (answer : Response) :
    s.SameConstants { s with resp := some answer } := ⟨rfl, rfl⟩

theorem issue_sameConstants {s t : State} {i : Instr} (h : s.issue i = .next t) : s.SameConstants t := by
  obtain ⟨-, -, rfl⟩ | ⟨-, -, rfl⟩ | ⟨-, -, rfl⟩ := issue_next h <;> exact ⟨rfl, rfl⟩

theorem completeWith_sameConstants {s t : State} {i : Instr} {result : Operands → Results}
    {free : Params → Nat → Results} (h : s.completeWith i result free = .next t) : s.SameConstants t := by
  obtain rfl | ⟨res, k, rfl⟩ := completeWith_next h <;> exact ⟨rfl, rfl⟩

theorem engineStep_sameConstants {s t : State} (h : s.engineStep = .next t) : s.SameConstants t := by
  obtain ⟨i, -, hc⟩ | ⟨-, rfl⟩ := engineStep_next h
  · exact completeWith_sameConstants hc
  · exact ⟨rfl, rfl⟩

theorem writeCommand_sameConstants {s t : State} {c : Word} (h : s.writeCommand c = .next t) :
    s.SameConstants t := by
  obtain ⟨-, rfl⟩ | ⟨i, -, -, hi⟩ | ⟨-, -, rfl⟩ := writeCommand_next h
  · exact ⟨rfl, rfl⟩
  · exact issue_sameConstants hi
  · exact ⟨rfl, rfl⟩

theorem writeCtrl_sameConstants (s : State) (d : Word) : s.SameConstants (s.writeCtrl d) := by
  obtain ⟨-, h⟩ | ⟨-, h⟩ := writeCtrl_cases s d <;> rw [h] <;> exact ⟨rfl, rfl⟩

theorem writeSlot_sameConstants (s : State) (q : Reg) (k : Nat) (d : Word) :
    s.SameConstants (s.writeSlot q k d) := by
  obtain ⟨-, h⟩ | ⟨-, -, -, h⟩ | ⟨-, -, -, h⟩ := writeSlot_cases s q k d <;> rw [h]
  · exact ⟨rfl, rfl⟩
  · exact ⟨rfl, rfl⟩
  · exact ⟨State.setWord_hw .., State.setWord_onUndef ..⟩

theorem writeTarget_sameConstants {s t : State} {q : Target} {d : Word} (h : s.writeTarget q d = .next t) :
    s.SameConstants t := by
  obtain ⟨-, rfl⟩ | ⟨-, rfl⟩ | ⟨-, hc⟩ | ⟨reg, k, -, rfl⟩ | ⟨-, rfl⟩ := writeTarget_next h
  · exact writeCtrl_sameConstants s d
  · exact ⟨rfl, rfl⟩
  · exact writeCommand_sameConstants hc
  · exact writeSlot_sameConstants s reg k d
  · exact ⟨rfl, rfl⟩

theorem busRead_sameConstants {s t : State} {addr size : Nat} (h : s.busRead addr size = .next t) :
    s.SameConstants t := by
  obtain ⟨-, ⟨-, rfl⟩ | ⟨-, rfl⟩⟩ := busRead_next h <;> exact ⟨rfl, rfl⟩

theorem busWrite_sameConstants {s t : State} {addr size : Nat} {d : Word} (h : s.busWrite addr size d = .next t) :
    s.SameConstants t := by
  obtain ⟨-, ⟨-, ht⟩ | ⟨-, rfl⟩⟩ := busWrite_next h
  · exact (answered_sameConstants s .okay).trans (writeTarget_sameConstants ht)
  · exact ⟨rfl, rfl⟩

theorem step_sameConstants {s t : State} (h : step s = .next t) : s.SameConstants t := by
  obtain ⟨-, he⟩ | ⟨addr, size, -, hr⟩ | ⟨addr, size, d, -, hw⟩ | ⟨-, rfl⟩ := step_next h
  all_goals refine (taken_sameConstants s).trans ?_
  · exact engineStep_sameConstants he
  · exact busRead_sameConstants hr
  · exact busWrite_sameConstants hw
  · exact ⟨rfl, rfl⟩

/-- Settles O53: what a step can do, agent by agent, keeps the constants. -/
theorem parametersNeverChange : Obligations.ParametersNeverChange := fun _ _ => step_sameConstants

end Sys2Proof.Machine

/-! ### The state (10_state.md): what a step does to it, read off the port's view of the event -/

namespace Sys2Proof.Machine

/-! #### The port's view of an event: target and data of an accepted access (R63 to R65) -/

/-- What the port makes of an event, its address decoded. -/
inductive Action where
  /-- An accepted read. -/
  | read (q : Target)
  /-- An accepted write. -/
  | write (q : Target) (d : Word)
  /-- An access answered SLVERR. -/
  | refuse
  /-- A transaction outside the aperture. -/
  | outside
  /-- The engine's step. -/
  | complete
  /-- The platform's reset. -/
  | hardReset

/-- The decoding of an access that does `accept` to its target if it is accepted. -/
def access (p : Params) (addr size : Nat) (accept : Target → Action) : Action :=
  if inAperture p addr then
    if accepted (addr - p.base) size then accept (target (addr - p.base)) else .refuse
  else .outside

/-- The decoding of an event on hardware with the parameters `p`. -/
def action (p : Params) : Event → Action
  | .read addr size => access p addr size .read
  | .write addr size d => access p addr size (.write · d)
  | .complete => .complete
  | .hardReset => .hardReset

theorem access_cases (p : Params) (addr size : Nat) (accept : Target → Action) :
    (inAperture p addr = true ∧ accepted (addr - p.base) size = true ∧
        access p addr size accept = accept (target (addr - p.base))) ∨
      (inAperture p addr = true ∧ accepted (addr - p.base) size = false ∧ access p addr size accept = .refuse) ∨
      (inAperture p addr = false ∧ access p addr size accept = .outside) := by
  unfold access
  cases inAperture p addr <;> cases accepted (addr - p.base) size <;> simp

/-- The effect of a decoded event. -/
def State.act (s : State) : Action → Host.Outcome State Fault Refusal
  | .read q => .next (s.acceptRead q)
  | .write q d => { s with resp := some .okay }.writeTarget q d
  | .refuse => .next s.busError
  | .outside => .fault .outsideAperture
  | .complete => s.engineStep
  | .hardReset => .next s.hardReset

/-- A step is the effect of the next event as the port decodes it. -/
theorem step_eq_act (s : State) : step s = s.taken.act (action s.hw s.nextEvent) := by
  rw [step_eq]
  cases s.nextEvent with
  | read addr size =>
    obtain ⟨hp, ha, h⟩ | ⟨hp, ha, h⟩ | ⟨hp, h⟩ := access_cases s.hw addr size .read <;>
      simp [State.perform, State.busRead, action, State.act, *]
  | write addr size d =>
    obtain ⟨hp, ha, h⟩ | ⟨hp, ha, h⟩ | ⟨hp, h⟩ := access_cases s.hw addr size (.write · d) <;>
      simp [State.perform, State.busWrite, action, State.act, *]
  | complete => rfl
  | hardReset => rfl

/-! The predicates on events in which the statements are put, as predicates on actions. -/

/-- A write to `q` with data that meets `f`. -/
def Action.hits (q : Target) (f : Word → Bool) : Action → Bool
  | .write q' d => q' == q && f d
  | _ => false

/-- A write to a slot below NW of an operand window. -/
def Action.hitsOperand (p : Params) : Action → Bool
  | .write (.slot q k) _ => isOperand q && decide (k < p.nw)
  | _ => false

/-- Either reset. -/
def Action.resets : Action → Bool
  | .hardReset => true
  | .write .ctrl d => d.getLsbD 1
  | _ => false

@[simp] theorem isWriteTo_eq_hits (p : Params) (q : Target) (f : Word → Bool) (ev : Event) :
    isWriteTo p q f ev = (action p ev).hits q f := by
  cases ev with
  | read addr size =>
    obtain ⟨-, -, h⟩ | ⟨-, -, h⟩ | ⟨-, h⟩ := access_cases p addr size .read <;> rw [action, h] <;> rfl
  | write addr size d =>
    obtain ⟨hp, ha, h⟩ | ⟨hp, ha, h⟩ | ⟨hp, h⟩ := access_cases p addr size (.write · d) <;>
      simp [isWriteTo, action, Action.hits, *]
  | complete => rfl
  | hardReset => rfl

@[simp] theorem isCommandWrite_eq_hits (p : Params) (ev : Event) :
    isCommandWrite p ev = (action p ev).hits .cmd fun _ => true :=
  isWriteTo_eq_hits ..

@[simp] theorem isStatusClear_eq_hits (p : Params) (j : Nat) (ev : Event) :
    isStatusClear p j ev = (action p ev).hits .status fun d => d.getLsbD j :=
  isWriteTo_eq_hits ..

/-- An access is decoded to an accepted one, a refused one, or one outside the aperture. -/
theorem access_ne {p : Params} {addr size : Nat} {accept : Target → Action} {a : Action} (ha : ∀ q, accept q ≠ a)
    (hr : .refuse ≠ a) (ho : .outside ≠ a) : access p addr size accept ≠ a := by
  obtain ⟨-, -, h⟩ | ⟨-, -, h⟩ | ⟨-, h⟩ := access_cases p addr size accept <;> rw [h]
  · exact ha _
  · exact hr
  · exact ho

theorem eq_complete_iff (p : Params) (ev : Event) : ev = .complete ↔ action p ev = .complete := by
  cases ev <;> simp [action, access_ne]

theorem eq_hardReset_iff (p : Params) (ev : Event) : ev = .hardReset ↔ action p ev = .hardReset := by
  cases ev <;> simp [action, access_ne]

@[simp] theorem isReset_eq_resets (p : Params) (ev : Event) : isReset p ev = (action p ev).resets := by
  rw [Bool.eq_iff_iff]
  simp only [isReset, isWriteTo_eq_hits, Bool.or_eq_true, beq_iff_eq, eq_hardReset_iff p]
  cases action p ev with
  | write q d => cases q <;> simp [Action.hits, Action.resets]
  | _ => simp [Action.hits, Action.resets]

@[simp] theorem isOperandWrite_eq_hitsOperand (p : Params) (ev : Event) :
    isOperandWrite p ev = (action p ev).hitsOperand p := by
  simp only [isOperandWrite, isWriteTo_eq_hits]
  rw [Bool.eq_iff_iff]
  cases action p ev with
  | write q d =>
    cases q with
    | slot q k => cases q <;> simp [Action.hits, Action.hitsOperand, isOperand]
    | _ => simp [Action.hits, Action.hitsOperand]
  | _ => simp [Action.hits, Action.hitsOperand]

end Sys2Proof.Machine

/-! #### What a step that goes on does, action by action -/

namespace Sys2Proof.Machine

/-- A target at which an accepted write does nothing (R23, R24, R39, R42, R43). A reserved target is never accepted. -/
def Target.inert (p : Params) : Target → Bool
  | .id | .hwcfg | .rflags | .reserved => true
  | .slot q k => decide (p.nw ≤ k) || !isOperand q
  | .ctrl | .status | .cmd => false

/-- The effects of the actions that go on, from the state `s` with the event taken off its schedule. -/
inductive Effect (s : State) : Action → State → Prop
  /-- The command in flight completes (R110). -/
  | completes {i : Instr} {t : State} (pending : s.pend = some i)
      (completed : s.completeWith i (resultOf i) (freeOf i) = .next t) : Effect s .complete t
  /-- With nothing in flight the engine does nothing (R109). -/
  | engineIdles (idle : s.pend = none) : Effect s .complete s
  | hardResets : Effect s .hardReset s.hardReset
  | reads (q : Target) : Effect s (.read q) (s.acceptRead q)
  | refuses : Effect s .refuse s.busError
  /-- A CTRL write with SRST set (R26, R202). -/
  | softResets {d : Word} (srst : d.getLsbD 1 = true) :
      Effect s (.write .ctrl d) { s with resp := some .okay }.hardReset
  /-- A CTRL write with SRST clear (R27). -/
  | writesIe {d : Word} (noSrst : d.getLsbD 1 = false) :
      Effect s (.write .ctrl d) { s with resp := some .okay, ie := d.getLsbD 0 }
  | clearsStatus (d : Word) : Effect s (.write .status d) ({ s with resp := some .okay }.writeStatus d)
  /-- A CMD write while BUSY (R106). -/
  | drops (d : Word) (busy : s.pend.isSome = true) :
      Effect s (.write .cmd d) { s with resp := some .okay }.dropCommand
  /-- A CMD write of a legal word (R104). -/
  | issues {d : Word} {i : Instr} {t : State} (idle : s.pend = none) (legal : decode d = some i)
      (issued : { s with resp := some .okay }.issue i = .next t) : Effect s (.write .cmd d) t
  /-- A CMD write of an illegal word (R105). -/
  | refusesWord {d : Word} (idle : s.pend = none) (illegal : decode d = none) :
      Effect s (.write .cmd d) ({ s with resp := some .okay }.issueIllegal d)
  /-- A write to an operand window while BUSY (R102). -/
  | flagsWrite {q : Reg} {k : Nat} (d : Word) (slot : k < s.hw.nw) (operand : isOperand q = true)
      (busy : s.pend.isSome = true) : Effect s (.write (.slot q k) d) { s with resp := some .okay, wbusy := true }
  /-- A write to an operand window while idle (R102). -/
  | writesWord {q : Reg} {k : Nat} (d : Word) (slot : k < s.hw.nw) (operand : isOperand q = true)
      (idle : s.pend = none) : Effect s (.write (.slot q k) d) ({ s with resp := some .okay }.setWord q k d)
  | ignores {q : Target} (d : Word) (inert : q.inert s.hw = true) : Effect s (.write q d) { s with resp := some .okay }

theorem busy_eq_false_iff {s : State} : s.busy = false ↔ s.pend = none := by simp [State.busy]

/-- An accepted write has one of the effects of a write. -/
theorem writeTarget_effect {s t : State} {q : Target} {d : Word}
    (h : { s with resp := some .okay }.writeTarget q d = .next t) : Effect s (.write q d) t := by
  obtain ⟨rfl, rfl⟩ | ⟨rfl, rfl⟩ | ⟨rfl, hc⟩ | ⟨reg, k, rfl, rfl⟩ | ⟨hq, rfl⟩ := writeTarget_next h
  · obtain ⟨hd, h'⟩ | ⟨hd, h'⟩ := writeCtrl_cases { s with resp := some .okay } d <;> rw [h']
    · exact .softResets hd
    · exact .writesIe hd
  · exact .clearsStatus d
  · obtain ⟨hb, rfl⟩ | ⟨i, hp, hi, h'⟩ | ⟨hp, hi, rfl⟩ := writeCommand_next hc
    · exact .drops d hb
    · exact .issues hp hi h'
    · exact .refusesWord hp hi
  · obtain ⟨hk, h'⟩ | ⟨hk, hq, hb, h'⟩ | ⟨hk, hq, hb, h'⟩ :=
      writeSlot_cases { s with resp := some .okay } reg k d <;> rw [h']
    · exact .ignores d (by simpa [Target.inert] using hk)
    · exact .flagsWrite d hk hq hb
    · exact .writesWord d hk hq (busy_eq_false_iff.mp hb)
  · exact .ignores d (by obtain rfl | rfl | rfl | rfl := hq <;> rfl)

/-- A step that goes on has one of these effects. -/
theorem step_effect {s t : State} (h : step s = .next t) : Effect s.taken (action s.hw s.nextEvent) t := by
  rw [step_eq_act] at h
  cases ha : action s.hw s.nextEvent with rw [ha] at h
  | read q => cases h; exact .reads q
  | write q d => exact writeTarget_effect h
  | refuse => cases h; exact .refuses
  | outside => cases h
  | complete =>
    obtain ⟨i, hp, hc⟩ | ⟨hp, rfl⟩ := engineStep_next h
    · exact .completes hp hc
    · exact .engineIdles hp
  | hardReset => cases h; exact .hardResets

end Sys2Proof.Machine

/-! #### What commands leave alone (R41, R110) -/

namespace Sys2Proof.Machine

/-- What neither an issue nor a completion writes. -/
structure State.CommandFrame (s t : State) : Prop where
  operands : s.SameOperands t
  ie : t.ie = s.ie
  ovr : t.ovr = s.ovr
  wbusy : t.wbusy = s.wbusy
  hw : t.hw = s.hw
  onUndef : t.onUndef = s.onUndef
  schedule : t.schedule = s.schedule
  resp : t.resp = s.resp

theorem State.SameOperands.refl (s : State) : s.SameOperands s := ⟨rfl, rfl, rfl, rfl⟩

theorem State.SameResults.refl (s : State) : s.SameResults s := ⟨rfl, rfl, rfl, rfl, rfl, rfl, rfl⟩

theorem issue_commandFrame {s t : State} {i : Instr} (h : s.issue i = .next t) : s.CommandFrame t := by
  obtain ⟨-, -, rfl⟩ | ⟨-, -, rfl⟩ | ⟨-, -, rfl⟩ := issue_next h <;>
    exact ⟨.refl s, rfl, rfl, rfl, rfl, rfl, rfl, rfl⟩

theorem completeWith_commandFrame {s t : State} {i : Instr} {result : Operands → Results}
    {free : Params → Nat → Results} (h : s.completeWith i result free = .next t) : s.CommandFrame t := by
  obtain rfl | ⟨res, k, rfl⟩ := completeWith_next h <;> exact ⟨.refl s, rfl, rfl, rfl, rfl, rfl, rfl, rfl⟩

/-- An issue writes no result register and no bit of RFLAGS. -/
theorem issue_sameResults {s t : State} {i : Instr} (h : s.issue i = .next t) : s.SameResults t := by
  obtain ⟨-, -, rfl⟩ | ⟨-, -, rfl⟩ | ⟨-, -, rfl⟩ := issue_next h <;> exact .refl s

theorem issue_cmdreg {s t : State} {i : Instr} (h : s.issue i = .next t) : t.cmdreg = encode i := by
  obtain ⟨-, -, rfl⟩ | ⟨-, -, rfl⟩ | ⟨-, -, rfl⟩ := issue_next h <;> rfl

/-- After an issue that goes on the command is in flight, with DONE and ERRCODE 0, or it has ended with DONE. -/
theorem issue_inFlight_or_done {s t : State} {i : Instr} (h : s.issue i = .next t) :
    (t.pend = some i ∧ t.done = false ∧ t.errcode = .noError) ∨ (t.pend = none ∧ t.done = true) := by
  obtain ⟨-, -, rfl⟩ | ⟨-, -, rfl⟩ | ⟨-, -, rfl⟩ := issue_next h
  · exact .inl ⟨rfl, rfl, rfl⟩
  · exact .inr ⟨rfl, rfl⟩
  · cases hr : (s.acceptCommand (encode i)).undefRefused i
    · exact .inl (by simp [hr])
    · exact .inr (by simp [hr])

/-- A completion ends the command and leaves CMDREG (R110). -/
theorem completeWith_ends {s t : State} {i : Instr} {result : Operands → Results}
    {free : Params → Nat → Results} (h : s.completeWith i result free = .next t) :
    t.pend = none ∧ t.done = true ∧ t.cmdreg = s.cmdreg := by
  obtain rfl | ⟨res, k, rfl⟩ := completeWith_next h <;> exact ⟨rfl, rfl, rfl⟩

/-- A write to an operand window reaches no result register and no flag. -/
theorem setWord_sameResults (s : State) {q : Reg} (k : Nat) (d : Word) (hq : isOperand q = true) :
    s.SameResults (s.setWord q k d) := by
  cases q with
  | a | b | e | n => exact .refl s
  | _ => cases hq

/-- Settles O27: an issue, a completion and a dropped CMD write. -/
theorem noCommandWritesAnOperand : Obligations.NoCommandWritesAnOperand := by
  intro s t i h
  suffices hf : s.CommandFrame t ∨ t = s.dropCommand by
    obtain hf | rfl := hf
    · exact ⟨hf.operands, hf.ie, hf.wbusy, hf.hw, hf.onUndef, hf.schedule, hf.resp⟩
    · exact ⟨.refl s, rfl, rfl, rfl, rfl, rfl, rfl⟩
  obtain ⟨-, hi⟩ | ⟨-, hc⟩ | ⟨-, -, -, rfl⟩ := exec_next h
  · exact .inl (issue_commandFrame hi)
  · exact .inl (completeWith_commandFrame hc)
  · exact .inr rfl

/-! #### Whole-machine rules: which actions change which piece of state -/

/-- Settles O54: every effect but two leaves the operand registers. -/
theorem onlyWindowWritesChangeOperands : Obligations.OnlyWindowWritesChangeOperands := by
  intro s t h hne
  have he := step_effect h
  simp only [isOperandWrite_eq_hitsOperand, isReset_eq_resets]
  generalize action s.hw s.nextEvent = a at he ⊢
  cases he with
  | completes _ hc => exact absurd (completeWith_commandFrame hc).operands hne
  | issues _ _ hi => exact absurd (issue_commandFrame hi).operands hne
  | hardResets => exact .inr rfl
  | softResets hd => exact .inr hd
  | writesWord d hk hq hp => exact .inl ⟨busy_eq_false_iff.mpr hp, by simpa [Action.hitsOperand, hq] using hk⟩
  | _ => exact absurd (.refl s) hne

/-- Settles O55: every effect but a completion and the resets leaves the results and RFLAGS. -/
theorem onlyCompletionChangesResults : Obligations.OnlyCompletionChangesResults := by
  intro s t h hne
  have he := step_effect h
  simp only [isReset_eq_resets, eq_complete_iff s.hw]
  generalize action s.hw s.nextEvent = a at he ⊢
  cases he with
  | completes hp => exact .inl ⟨congrArg Option.isSome hp, rfl⟩
  | issues _ _ hi => exact absurd (issue_sameResults hi) hne
  | hardResets => exact .inr rfl
  | softResets hd => exact .inr hd
  | writesWord d _ hq _ => exact absurd (setWord_sameResults { s.taken with resp := some .okay } _ d hq) hne
  | _ => exact absurd (.refl s) hne

theorem decode_encode (i : Instr) : decode (encode i) = some i := by
  cases i with
  | extgcd na nb => cases na <;> cases nb <;> decide
  | _ => decide

/-- A step that keeps PEND neither clears nor sets BUSY. -/
theorem busy_rules_of_pend_eq {s t : State} {P Q : Prop} (h : t.pend = s.pend) :
    (s.busy = true → t.busy = false → P) ∧ (s.busy = false → t.busy = true → Q) := by
  have hb : t.busy = s.busy := congrArg Option.isSome h
  simp_all

/-- Settles O56: BUSY is whether PEND is set, and only completions, resets and issues write PEND. -/
theorem busyRisesAtIssueAndFallsAtEnd : Obligations.BusyRisesAtIssueAndFallsAtEnd := by
  intro s t h
  have he := step_effect h
  simp only [isWriteTo_eq_hits, isReset_eq_resets, eq_complete_iff s.hw]
  generalize action s.hw s.nextEvent = a at he ⊢
  cases he with
  | completes _ hc => exact ⟨fun _ _ => .inl rfl, fun _ hb => by simp [State.busy, (completeWith_ends hc).1] at hb⟩
  | issues hp hd hi =>
    refine ⟨fun hb => Bool.noConfusion (hb.symm.trans (busy_eq_false_iff.mpr hp)), fun _ hb => ?_⟩
    obtain ⟨hi', -, -⟩ | ⟨hi', -⟩ := issue_inFlight_or_done hi
    · exact ⟨by simp [Action.hits, hd], by rw [hi', issue_cmdreg hi, decode_encode]⟩
    · simp [State.busy, hi'] at hb
  | hardResets => exact ⟨fun _ _ => .inr rfl, fun _ hb => by cases hb⟩
  | softResets hd => exact ⟨fun _ _ => .inr hd, fun _ hb => by cases hb⟩
  | refusesWord hp => exact busy_rules_of_pend_eq hp.symm
  | writesWord => exact busy_rules_of_pend_eq (State.setWord_pend ..)
  | _ => exact busy_rules_of_pend_eq rfl

/-- Settles O57: of the effects that are left, only a STATUS write touches DONE. -/
theorem onlyCommandsWriteDoneAndErrcode : Obligations.OnlyCommandsWriteDoneAndErrcode := by
  intro s t h
  have he := step_effect h
  simp only [isCommandWrite_eq_hits, isStatusClear_eq_hits, isReset_eq_resets, eq_complete_iff s.hw]
  generalize action s.hw s.nextEvent = a at he ⊢
  intro hr hc hw
  cases he with
  | completes hp => exact absurd ⟨congrArg Option.isSome hp, rfl⟩ hc
  | issues hp => exact absurd ⟨busy_eq_false_iff.mpr hp, rfl⟩ hw
  | refusesWord hp => exact absurd ⟨busy_eq_false_iff.mpr hp, rfl⟩ hw
  | hardResets => cases hr
  | softResets hd => cases hd.symm.trans hr
  | clearsStatus d =>
    exact ⟨rfl, fun hd => (Bool.and_eq_true_iff.mp hd).1, fun hn => by simp_all [Action.hits]⟩
  | writesWord => simp
  | _ => exact ⟨rfl, id, fun _ => rfl⟩

/-- Settles O59: the effects that write IE are the CTRL writes and the resets. -/
theorem onlyCtrlWritesChangeIe : Obligations.OnlyCtrlWritesChangeIe := by
  intro s t h hne
  have he := step_effect h
  simp only [isWriteTo_eq_hits, eq_hardReset_iff s.hw]
  generalize action s.hw s.nextEvent = a at he ⊢
  cases he with
  | completes _ hc => exact absurd (completeWith_commandFrame hc).ie hne
  | issues _ _ hi => exact absurd (issue_commandFrame hi).ie hne
  | hardResets => exact .inr rfl
  | softResets => exact .inl rfl
  | writesIe => exact .inl rfl
  | writesWord => exact absurd (State.setWord_ie ..) hne
  | _ => exact absurd rfl hne

theorem hits_of_inert {p : Params} {q : Target} {d : Word} (h : q.inert p = true) {q' : Target}
    (h' : q'.inert p = false) (f : Word → Bool) : Action.hits q' f (.write q d) = false := by
  have hne : q ≠ q' := fun e => by simp_all
  simp [Action.hits, hne]

theorem hitsOperand_of_inert {p : Params} {q : Target} {d : Word} (h : q.inert p = true) :
    Action.hitsOperand p (.write q d) = false := by
  cases q with
  | slot q k =>
    simp only [Target.inert, Bool.or_eq_true, decide_eq_true_eq, Bool.not_eq_true'] at h
    simp only [Action.hitsOperand, Bool.and_eq_false_iff, decide_eq_false_iff_not, Nat.not_lt]
    exact h.symm
  | _ => rfl

theorem resets_of_inert {p : Params} {q : Target} {d : Word} (h : q.inert p = true) :
    Action.resets (.write q d) = false := by
  cases q with
  | ctrl => cases h
  | _ => rfl

/-- A reset leaves the state that `State.hardReset` leaves (R200, R202). -/
theorem Effect.eq_hardReset_of_resets {s t : State} {a : Action} (he : Effect s a t) (hr : a.resets = true) :
    ∃ u : State, t = u.hardReset := by
  cases he with
  | hardResets | softResets => exact ⟨_, rfl⟩
  | writesIe hd => cases hd.symm.trans hr
  | ignores _ hi => cases (resets_of_inert hi).symm.trans hr
  | _ => cases hr

/-- OVR after an action that is no reset: set by a CMD write while BUSY, cleared by its W1C bit (R32). -/
theorem Effect.ovr_iff {s t : State} {a : Action} (he : Effect s a t) (hr : a.resets = false) :
    t.ovr = true ↔ (s.busy = true ∧ a.hits .cmd (fun _ => true) = true) ∨
      (s.ovr = true ∧ a.hits .status (·.getLsbD 16) = false) := by
  cases he with
  | completes _ hc => simp [Action.hits, (completeWith_commandFrame hc).ovr]
  | issues hp _ hi => simp [Action.hits, (issue_commandFrame hi).ovr, State.busy, hp]
  | refusesWord hp => simp [Action.hits, State.busy, hp]
  | drops _ hb => simp [Action.hits, State.busy, hb]
  | hardResets => cases hr
  | softResets hd => cases hd.symm.trans hr
  | ignores _ hi => simp [hits_of_inert hi (q' := .cmd) rfl, hits_of_inert hi (q' := .status) rfl]
  | _ => simp [Action.hits]

/-- WBUSY after an action that is no reset: set by an operand-window write while BUSY, cleared by its W1C bit (R33). -/
theorem Effect.wbusy_iff {s t : State} {a : Action} (he : Effect s a t) (hr : a.resets = false) :
    t.wbusy = true ↔ (s.busy = true ∧ a.hitsOperand s.hw = true) ∨
      (s.wbusy = true ∧ a.hits .status (·.getLsbD 17) = false) := by
  cases he with
  | completes _ hc => simp [Action.hits, Action.hitsOperand, (completeWith_commandFrame hc).wbusy]
  | issues hp _ hi => simp [Action.hits, Action.hitsOperand, (issue_commandFrame hi).wbusy]
  | flagsWrite _ hk hq hb => simp [Action.hitsOperand, State.busy, hk, hq, hb]
  | writesWord _ _ _ hp => simp [Action.hits, State.busy, hp]
  | hardResets => cases hr
  | softResets hd => cases hd.symm.trans hr
  | ignores _ hi => simp [hits_of_inert hi (q' := .status) rfl, hitsOperand_of_inert hi]
  | _ => simp [Action.hits, Action.hitsOperand]

/-- Settles O58: each sticky bit after each effect. -/
theorem stickyBits : Obligations.StickyBits := by
  intro s t h
  have he := step_effect h
  simp only [isCommandWrite_eq_hits, isOperandWrite_eq_hitsOperand, isStatusClear_eq_hits, isReset_eq_resets]
  refine ⟨fun hr => ?_, fun hr => ⟨he.ovr_iff hr, he.wbusy_iff hr⟩⟩
  obtain ⟨u, rfl⟩ := he.eq_hardReset_of_resets hr
  exact ⟨rfl, rfl⟩

end Sys2Proof.Machine

/-! #### The invariant (R31, R35 to R37, R104) -/

namespace Sys2Proof.Machine

theorem inv_iff (s : State) :
    s.Inv = true ↔ s.Shaped = true ∧ s.FlightOk = true ∧ signOk s.xneg (s.val .x) = true ∧
      signOk s.yneg (s.val .y) = true := by
  simp [State.Inv, and_assoc]

/-- The reset state of a legal configuration has the invariant. -/
theorem inv_resetOf {p : Params} (h : p.Legal = true) : (State.resetOf p).Inv = true :=
  (inv_iff _).mpr ⟨(shaped_iff _).mpr ⟨h, fun q => by cases q <;> exact undefReg_length _⟩, rfl, rfl, rfl⟩

/-- Settles O51: `inv_resetOf`, and the reference configuration is legal. -/
theorem resetHasTheInvariant : Obligations.ResetHasTheInvariant :=
  ⟨fun _ => inv_resetOf, inv_resetOf (by decide)⟩

theorem inv_hardReset {s : State} (h : s.hw.Legal = true) : s.hardReset.Inv = true :=
  inv_congr (inv_resetOf h) rfl (fun q => by cases q <;> rfl) rfl rfl (flightOk_of_idle rfl)

/-- What every effect leaves alone that is no issue, completion, reset or write of an operand word; DONE may fall. -/
structure State.Undisturbed (s t : State) : Prop where
  hw : t.hw = s.hw
  onUndef : t.onUndef = s.onUndef
  pend : t.pend = s.pend
  errcode : t.errcode = s.errcode
  cmdreg : t.cmdreg = s.cmdreg
  done : s.done = false → t.done = false
  operands : s.SameOperands t
  results : s.SameResults t

theorem State.Undisturbed.reg {s t : State} (h : s.Undisturbed t) (q : Reg) : t.reg q = s.reg q := by
  obtain ⟨ha, hb, he, hn⟩ := h.operands
  obtain ⟨hr, hg, hx, hy, -⟩ := h.results
  cases q <;> simp [*]

/-- The invariant does not depend on what such an effect changes. -/
theorem State.Undisturbed.inv {s t : State} (h : s.Undisturbed t) (hi : s.Inv = true) : t.Inv = true := by
  obtain ⟨-, hf, -, -⟩ := (inv_iff s).mp hi
  obtain ⟨-, -, -, -, hx, hy, -⟩ := h.results
  exact inv_congr hi h.hw h.reg hx.symm hy.symm
    (flightOk_congr hf h.pend h.done h.errcode h.cmdreg h.onUndef h.operands)

/-- A magnitude and a sign bit that a completion lists: those of one integer, or none (R36, R37). -/
def ListsCoefficient (magnitude : Option Nat) (sign : Option Bool) : Prop :=
  (magnitude = none ∧ sign = none) ∨ ∃ z : Int, magnitude = some z.natAbs ∧ sign = some (signFlag z)

/-- X with XNEG, and Y with YNEG, are coefficients. -/
def Results.Signed (res : Results) : Prop := ListsCoefficient res.x res.xneg ∧ ListsCoefficient res.y res.yneg

theorem bezoutResults_signed (gxy : Nat × Int × Int) : (bezoutResults gxy).Signed :=
  ⟨.inr ⟨_, rfl, rfl⟩, .inr ⟨_, rfl, rfl⟩⟩

theorem resultOf_signed (i : Instr) (o : Operands) : (resultOf i o).Signed := by
  cases i with
  | modmul | modexp => exact ⟨.inl ⟨rfl, rfl⟩, .inl ⟨rfl, rfl⟩⟩
  | extgcd | modinv => exact bezoutResults_signed _

theorem freeOf_signed (i : Instr) (p : Params) (c : Nat) : (freeOf i p c).Signed := by
  cases i with
  | modmul | modexp => exact ⟨.inl ⟨rfl, rfl⟩, .inl ⟨rfl, rfl⟩⟩
  | extgcd | modinv => exact bezoutResults_signed _

/-- The free results fit: they are W-bit values (R46). -/
theorem freeOf_fits (i : Instr) (p : Params) (c : Nat) : (freeOf i p c).fits p = true := by
  have hv : ∀ k, fitsWidth p (some (drawValue p.nw k)) = true := fun k => (fitsWidth_some ..).mpr (drawValue_lt ..)
  have hz : ∀ k, fitsWidth p (some (freeCoefficient p k).natAbs) = true := fun k =>
    (fitsWidth_some ..).mpr (freeCoefficient_lt ..)
  cases i with
  | modmul | modexp => exact (Results.fits_iff ..).mpr ⟨hv _, rfl, rfl, rfl⟩
  | extgcd => exact (Results.fits_iff ..).mpr ⟨rfl, hv _, hz _, hz _⟩
  | modinv =>
    refine (Results.fits_iff ..).mpr ⟨?_, hv _, hz _, hz _⟩
    simp only [freeOf, modinvFree, inverseResults]
    split
    · exact hv _
    · rfl

/-- A coefficient that fits is stored with sign 0 if it is 0; one that is not listed stays as it was. -/
theorem signOk_result {p : Params} {magnitude : Option Nat} {sign : Option Bool} {oldSign : FlagBit} {old : WideReg}
    (hl : ListsCoefficient magnitude sign) (hf : fitsWidth p magnitude = true)
    (h : signOk oldSign (wordsValue old) = true) :
    signOk (resultFlag sign oldSign) (wordsValue (resultWords p.nw magnitude old)) = true := by
  obtain ⟨rfl, rfl⟩ | ⟨z, rfl, rfl⟩ := hl
  · exact h
  · exact signOk_of_stored (lt_of_fits hf rfl)

/-- Results that fit, with X and Y in sign-magnitude, keep the invariant: no command is in flight any more. -/
theorem inv_writeResults {s : State} {res : Results} (k : Nat) (h : s.Inv = true) (hs : res.Signed)
    (hf : res.fits s.hw = true) : ((s.writeResults res).drew k).Inv = true := by
  obtain ⟨hsh, -, hx, hy⟩ := (inv_iff s).mp h
  obtain ⟨hl, hlen⟩ := (shaped_iff s).mp hsh
  obtain ⟨-, -, hfx, hfy⟩ := (Results.fits_iff ..).mp hf
  refine (inv_iff _).mpr ⟨(shaped_iff _).mpr ⟨hl, fun q => ?_⟩, rfl,
    signOk_result hs.1 hfx hx, signOk_result hs.2 hfy hy⟩
  have hq := hlen q
  cases q with
  | a | b | e | n => exact hq
  | r | g | x | y => exact resultWords_length _ hq

/-- Ending a command without results keeps the invariant. -/
theorem inv_endCommand {s : State} (code : ErrorCode) (h : s.Inv = true) : (s.endCommand code).Inv = true :=
  inv_congr h rfl (fun q => by cases q <;> rfl) rfl rfl (flightOk_of_idle rfl)

theorem completeWith_inv {s t : State} {i : Instr} (h : s.Inv = true)
    (hc : s.completeWith i (resultOf i) (freeOf i) = .next t) : t.Inv = true := by
  obtain ⟨-, -, h'⟩ | ⟨-, -, hf, h'⟩ | ⟨-, -, -, h'⟩ | ⟨-, h'⟩ := completeWith_cases s i (resultOf i) (freeOf i) <;>
    rw [h'] at hc <;> cases hc
  · exact inv_endCommand _ h
  · exact inv_writeResults 0 h (resultOf_signed i _) hf
  · exact inv_writeResults _ h (freeOf_signed i ..) (freeOf_fits i ..)

/-- What is kept of a command in flight, part by part. -/
theorem flightOk_iff {s : State} {i : Instr} (hp : s.pend = some i) :
    s.FlightOk = true ↔ s.done = false ∧ s.errcode = .noError ∧ s.cmdreg = encode i ∧
      (s.regDefined .n = true → s.modulusZero i = false) ∧
      (s.onUndef = .hardwareGoesOn ∨ s.operandsDefined i = true) := by
  simp [State.FlightOk, hp, and_assoc, imp_iff_not_or]

/-- A defined modulus that is 0 makes the issue that meets an UNDEF operand word end the command (log 15). -/
theorem modulusZero_of_not_undefRefused {s : State} {i : Instr} (h : s.undefRefused i = false)
    (hn : s.regDefined .n = true) : s.modulusZero i = false := by
  simp_all [State.undefRefused, State.modulusZero]

/-- What an issue that goes on leaves in flight is in order: it writes DONE, ERRCODE and CMDREG, and R104's checks
have been passed, or have met an UNDEF word where the hardware goes on. -/
theorem issue_flightOk {s t : State} {i : Instr} (h : s.issue i = .next t) : t.FlightOk = true := by
  obtain ⟨hd, hz, rfl⟩ | ⟨-, -, rfl⟩ | ⟨hd, ho, rfl⟩ := issue_next h
  · exact (flightOk_iff rfl).mpr ⟨rfl, rfl, rfl, fun _ => hz, .inr hd⟩
  · exact flightOk_of_idle rfl
  · cases hr : (s.acceptCommand (encode i)).undefRefused i
    · refine (flightOk_iff (i := i) (by simp [hr])).mpr ⟨hr, by simp [hr], rfl, fun hn => ?_, .inl ho⟩
      exact modulusZero_of_not_undefRefused (s := s.acceptCommand (encode i)) hr hn
    · exact flightOk_of_idle (by simp [hr])

theorem issue_inv {s t : State} {i : Instr} (h : s.Inv = true) (hi : s.issue i = .next t) : t.Inv = true := by
  have hf := issue_commandFrame hi
  obtain ⟨ha, hb, he, hn⟩ := hf.operands
  obtain ⟨hr, hg, hx, hy, hxs, hys, -⟩ := issue_sameResults hi
  exact inv_congr h hf.hw (fun q => by cases q <;> simp [*]) hxs.symm hys.symm (issue_flightOk hi)

/-- A word written to an operand register of an idle block keeps the invariant. -/
theorem inv_setWord {s : State} {q : Reg} (k : Nat) (d : Word) (h : s.Inv = true) (hq : isOperand q = true)
    (hp : s.pend = none) : (s.setWord q k d).Inv = true := by
  obtain ⟨hsh, -, hx, hy⟩ := (inv_iff s).mp h
  obtain ⟨hl, hlen⟩ := (shaped_iff s).mp hsh
  obtain ⟨-, -, hxr, hyr, hxs, hys, -⟩ := setWord_sameResults s k d hq
  refine (inv_iff _).mpr ⟨(shaped_iff _).mpr ⟨by simpa using hl, fun q' => ?_⟩,
    flightOk_of_idle (by simpa using hp), ?_, ?_⟩
  · rw [State.reg_setWord, State.setWord_hw]
    split
    · rw [List.length_set, hlen q]
    · exact hlen q'
  · rwa [State.val, State.reg_x, ← hxr, ← hxs]
  · rwa [State.val, State.reg_y, ← hyr, ← hys]

/-- Settles O52: the invariant after each effect. -/
theorem everyStepKeepsTheInvariant : Obligations.EveryStepKeepsTheInvariant := by
  intro s t h hst
  have hl : s.hw.Legal = true := ((shaped_iff s).mp ((inv_iff s).mp h).1).1
  have quiet : ∀ {u : State}, s.Undisturbed u → u.Inv = true := fun hu => hu.inv h
  have h0 : s.taken.Inv = true := quiet ⟨rfl, rfl, rfl, rfl, rfl, id, .refl s, .refl s⟩
  have h1 : { s.taken with resp := some .okay }.Inv = true := quiet ⟨rfl, rfl, rfl, rfl, rfl, id, .refl s, .refl s⟩
  have he := step_effect hst
  generalize action s.hw s.nextEvent = a at he
  cases he with
  | completes _ hc => exact completeWith_inv h0 hc
  | issues _ _ hi => exact issue_inv h1 hi
  | refusesWord => exact inv_congr h1 rfl (fun q => by cases q <;> rfl) rfl rfl (flightOk_of_idle rfl)
  | hardResets | softResets => exact inv_hardReset hl
  | writesWord d _ hq hp => exact inv_setWord _ d h1 hq hp
  | clearsStatus d => exact quiet ⟨rfl, rfl, rfl, rfl, rfl, fun hd => by simp [hd], .refl s, .refl s⟩
  | _ => exact quiet ⟨rfl, rfl, rfl, rfl, rfl, id, .refl s, .refl s⟩

end Sys2Proof.Machine

/-! #### The host's accesses at each offset (R21, R40, R94) -/

namespace Sys2Proof.Machine

theorem windowAt_windowBase (q : Reg) : windowAt (windowBase q / windowSize) = some q := by cases q <;> rfl

/-- The windows are the KiB 1 to 8 of the aperture (R21). -/
theorem windowAt_eq_none {i : Nat} (h : 9 ≤ i) : windowAt i = none := by
  obtain ⟨j, rfl⟩ := Nat.exists_eq_add_of_le' h
  rfl

/-- Slot `k` lies in the register's KiB of the aperture, `k` words from its base (R40). -/
theorem slotOffset_div_mod (q : Reg) {k : Nat} (hk : k < 256) :
    slotOffset q k / windowSize = windowBase q / windowSize ∧ slotOffset q k % windowSize / 4 = k := by
  have hq : windowBase q % 0x400 = 0 := by cases q <;> rfl
  unfold slotOffset windowSize
  omega

/-- The offset of slot `k` reaches slot `k`. -/
theorem target_slotOffset (q : Reg) {k : Nat} (hk : k < 256) : target (slotOffset q k) = .slot q k := by
  have hq : 0x400 ≤ windowBase q := by cases q <;> decide
  have hlow : ∀ c < 0x400, slotOffset q k ≠ c := fun c hc => by unfold slotOffset; omega
  obtain ⟨hd, hm⟩ := slotOffset_div_mod q hk
  simp [target, hlow, hd, hm, windowAt_windowBase]

/-- Settles O31: `target_slotOffset`, and the bases by evaluation. -/
theorem addressMapOfWindows : Obligations.AddressMapOfWindows :=
  ⟨fun q _ hk => target_slotOffset q hk, by decide⟩

/-- An offset that is accepted lies in the aperture. -/
theorem inAperture_of_accepted {p : Params} {off size : Nat} (h : accepted off size = true) :
    inAperture p (p.base + off) = true := by
  have hoff : off < apertureSize := by
    by_contra hge
    unfold apertureSize at hge
    have hwin : windowAt (off / windowSize) = none := windowAt_eq_none (by unfold windowSize; omega)
    have hlow : ∀ c < 0x4000, off ≠ c := fun c hc => by omega
    have hres : target off = .reserved := by simp [target, hlow, hwin]
    simp [accepted, hres] at h
  simp [inAperture, hoff]

theorem accepted_slotOffset (q : Reg) {k : Nat} (hk : k < 256) : accepted (slotOffset q k) 4 = true := by
  have hq : windowBase q % 4 = 0 := by cases q <;> rfl
  have hal : slotOffset q k % 4 = 0 := by unfold slotOffset; omega
  simp [accepted, hal, target_slotOffset q hk]

/-- `RD` of an accepted offset is an accepted read of what the offset reaches. -/
theorem step_hostRD {s : State} {off : Nat} {rest : List Event} (h : s.schedule = hostRD s.hw off :: rest)
    (ha : accepted off 4 = true) : step s = .next ({ s with schedule := rest }.acceptRead (target off)) := by
  rw [step_of_cons h]
  simp [hostRD, State.perform, State.busRead, inAperture_of_accepted ha, ha]

/-- `RD` of an accepted offset is answered with what its target reads. -/
theorem hostRD_answers {s : State} {off : Nat} {rest : List Event} (h : s.schedule = hostRD s.hw off :: rest)
    (ha : accepted off 4 = true) {w : Word} (hw : s.readTarget (target off) = w) :
    ∃ t, step s = .next t ∧ t.resp = some (.data w) := by
  have hs : { s with schedule := rest }.readTarget (target off) = s.readTarget (target off) := by
    cases target off <;> rfl
  exact ⟨_, step_hostRD h ha, by rw [State.acceptRead_resp, hs, hw]⟩

/-- `WR` to an accepted offset is answered OKAY and has the effect of its target. -/
theorem step_hostWR {s : State} {off : Nat} {d : Word} {rest : List Event}
    (h : s.schedule = hostWR s.hw off d :: rest) (ha : accepted off 4 = true) :
    step s = { s with schedule := rest, resp := some .okay }.writeTarget (target off) d := by
  rw [step_of_cons h]
  simp [hostWR, State.perform, State.busWrite, inAperture_of_accepted ha, ha]

/-! #### The status words, field by field (R24, R34, R39) -/

theorem hwcfgWord_nw (p : Params) : (hwcfgWord p).extractLsb' 0 16 = BitVec.ofNat 16 p.nw :=
  BitVec.extractLsb'_append_eq_right

theorem hwcfgWord_red (p : Params) : (hwcfgWord p).extractLsb' 16 2 = reductionCode p.red := by
  simp only [hwcfgWord, BitVec.extractLsb'_append_eq_ite]
  simp

theorem hwcfgWord_res0 (p : Params) : (hwcfgWord p).extractLsb' 18 14 = 0#14 := by
  simp only [hwcfgWord, BitVec.extractLsb'_append_eq_ite]
  simp

theorem statusWord_bits (s : State) :
    s.statusWord.getLsbD 0 = s.busy ∧ s.statusWord.getLsbD 1 = s.done ∧ s.statusWord.getLsbD 2 = s.err ∧
      s.statusWord.getLsbD 3 = false ∧ s.statusWord.getLsbD 16 = s.ovr ∧ s.statusWord.getLsbD 17 = s.wbusy := by
  simp only [State.statusWord, BitVec.getLsbD_append]
  simp

theorem statusWord_fields (s : State) :
    s.statusWord.extractLsb' 4 4 = errorCode s.errcode ∧ s.statusWord.extractLsb' 8 8 = 0#8 ∧
      s.statusWord.extractLsb' 18 14 = 0#14 := by
  simp only [State.statusWord, BitVec.extractLsb'_append_eq_ite]
  simp

theorem rflagsWord_res0 (s : State) : s.rflagsWord.extractLsb' 3 29 = 0#29 := by
  simp only [State.rflagsWord, BitVec.extractLsb'_append_eq_ite]
  simp

theorem rflagsWord_bits (s : State) :
    s.rflagsWord.getLsbD 0 = s.xneg.readAs s.busy s.draws 0 ∧ s.rflagsWord.getLsbD 1 = s.yneg.readAs s.busy s.draws 1 ∧
      s.rflagsWord.getLsbD 2 = s.early.readAs s.busy s.draws 2 := by
  simp only [State.rflagsWord, BitVec.getLsbD_append]
  simp

/-- A defined bit is read as it is while idle. -/
theorem readAs_of_defined {f : FlagBit} {c j : Nat} (h : f.defined = true) : f.readAs false c j = f.bit := by
  simp [FlagBit.readAs, h]

theorem ctrlWord_eq (s : State) : s.ctrlWord = if s.ie then 0x00000001#32 else 0x00000000#32 := by
  unfold State.ctrlWord
  cases s.ie <;> rfl

/-! #### The statements about one access -/

/-- Settles O35: reads give the two constants, and both targets are inert. -/
theorem idAndHwcfgAreConstant : Obligations.IdAndHwcfgAreConstant := by
  intro s d rest hs
  obtain ⟨-, hnw⟩ := Params.nw_pos_of_legal ((shaped_iff s).mp hs).1
  refine ⟨fun h => hostRD_answers h rfl rfl, fun h => ?_, fun h => h.elim (step_hostWR · rfl) (step_hostWR · rfl)⟩
  obtain ⟨t, ht, hr⟩ := hostRD_answers (w := hwcfgWord s.hw) h rfl rfl
  refine ⟨t, _, ht, hr, ?_, ?_, hwcfgWord_res0 s.hw⟩
  · rw [hwcfgWord_nw, BitVec.toNat_ofNat]
    omega
  · rw [hwcfgWord_red]
    cases s.hw.red <;> rfl

/-- Settles O36: a CTRL write with SRST clear, and `ctrlWord`. -/
theorem ctrlWritesAndReadsIe : Obligations.CtrlWritesAndReadsIe := by
  intro s d rest
  refine ⟨fun h hd => ?_, fun h => hostRD_answers h rfl (ctrlWord_eq s)⟩
  obtain ⟨hd', -⟩ | ⟨-, h'⟩ := writeCtrl_cases { s with schedule := rest, resp := some .okay } d
  · cases hd.symm.trans hd'
  · exact (step_hostWR h rfl).trans (congrArg _ h')

/-- Settles O37: W1C bits of the write; the fields of `statusWord`. -/
theorem statusReadsAndAcknowledges : Obligations.StatusReadsAndAcknowledges := by
  intro s d rest
  refine ⟨fun h => ?_, fun h => ?_⟩
  · have w1c : ∀ old bit : Bool, (old && !bit) = if bit then false else old := by decide
    rw [step_hostWR h rfl, show target 0x00C = .status from rfl, State.writeTarget, State.writeStatus]
    simp only [w1c]
  · obtain ⟨t, ht, hr⟩ := hostRD_answers (w := s.statusWord) h rfl rfl
    obtain ⟨hbusy, hdone, herr, h3, hovr, hwbusy⟩ := statusWord_bits s
    obtain ⟨hcode, hres, hres'⟩ := statusWord_fields s
    refine ⟨t, _, ht, hr, hbusy, hdone, herr.trans ?_, h3, ?_, hres, hovr, hwbusy, hres'⟩
    · cases he : s.errcode <;> simp [State.err, he]
    · rw [hcode]
      cases s.errcode <;> rfl

/-- Settles O39: the fields of `rflagsWord`; RFLAGS is inert. -/
theorem rflagsReadsItsBits : Obligations.RflagsReadsItsBits := by
  intro s d rest
  refine ⟨fun h => ?_, fun h => step_hostWR h rfl⟩
  obtain ⟨t, ht, hr⟩ := hostRD_answers (w := s.rflagsWord) h rfl rfl
  refine ⟨t, _, ht, hr, rflagsWord_res0 s, fun hb => ?_⟩
  obtain ⟨hx, hy, he⟩ := rflagsWord_bits s
  rw [hx, hy, he, hb]
  exact ⟨readAs_of_defined, readAs_of_defined, readAs_of_defined⟩

/-- A slot below NW of an operand register, or while idle, reads its word if that is defined. -/
theorem readSlot_of_defined {s : State} {q : Reg} {k : Nat} {w : DataWord} (hk : k < s.hw.nw)
    (hq : s.busy = false ∨ isOperand q = true) (hw : (s.reg q)[k]? = some w) (hd : w.defined = true) :
    s.readSlot q k = w.bits := by
  have hfree : (s.busy && !isOperand q) = false := by obtain h | h := hq <;> simp [h]
  simp [State.readSlot, Nat.not_le.mpr hk, hfree, List.getD_eq_getElem?_getD, hw, DataWord.readAs, hd]

/-- Settles O41: `readSlot_of_defined` at the slot's offset. -/
theorem windowSlotReadsItsWord : Obligations.WindowSlotReadsItsWord := by
  intro s q k w rest hs hk hw hd hq h
  have hk256 : k < 256 := hk.trans_le (Params.nw_pos_of_legal ((shaped_iff s).mp hs).1).2
  have hq' : s.busy = false ∨ isOperand q = true :=
    hq.imp_right fun hq => by obtain rfl | rfl | rfl | rfl := hq <;> rfl
  have hread : s.readTarget (target (slotOffset q k)) = w.bits := by
    rw [target_slotOffset q hk256]
    exact readSlot_of_defined hk hq' hw hd
  obtain ⟨t, ht, hr⟩ := hostRD_answers h (accepted_slotOffset q hk256) hread
  exact ⟨t, ht, hr, bits_eq_of_getElem? hw⟩

/-- A write to an inert slot is answered OKAY and changes nothing. -/
theorem step_hostWR_inert {s : State} {q : Reg} {k : Nat} {d : Word} {rest : List Event}
    (h : s.schedule = hostWR s.hw (slotOffset q k) d :: rest) (hk : k < 256)
    (hi : s.hw.nw ≤ k ∨ isOperand q = false) : step s = .next { s with schedule := rest, resp := some .okay } := by
  rw [step_hostWR h (accepted_slotOffset q hk), target_slotOffset q hk, State.writeTarget, State.writeSlot]
  obtain hi | hi := hi <;> simp [hi]

/-- Settles O42: such a slot reads 0 and is inert. -/
theorem slotsFromNwOnAreRazWi : Obligations.SlotsFromNwOnAreRazWi := by
  intro s q k d rest hnw hk
  refine ⟨fun h => hostRD_answers h (accepted_slotOffset q hk) ?_, fun h => step_hostWR_inert h hk (.inl hnw)⟩
  rw [target_slotOffset q hk]
  exact if_pos hnw

/-- Settles O43: the slots of a result register are inert. -/
theorem resultWindowsIgnoreWrites : Obligations.ResultWindowsIgnoreWrites := by
  intro s q k d rest hq hk h
  exact step_hostWR_inert h hk (.inr (by obtain rfl | rfl | rfl | rfl := hq <;> rfl))

theorem statusWord_resetOf (p : Params) : (State.resetOf p).statusWord = 0x00000000#32 := by
  simp [State.statusWord, State.err, State.busy, State.resetOf, errorCode]

/-- Settles O46: every clause of the table, from the fields of `State.resetOf`. -/
theorem resetTable : Obligations.ResetTable := by
  have table (p : Params) : (State.resetOf p).AtReset := by
    refine ⟨rfl, rfl, rfl, rfl, rfl, rfl, rfl, rfl, rfl, rfl, fun q => ?_⟩
    have hq : (State.resetOf p).reg q = undefReg p.nw := by cases q <;> rfl
    rw [hq]
    exact ⟨undefReg_length _, fun w hw => by rw [List.eq_of_mem_replicate hw]; rfl⟩
  exact ⟨fun p => ⟨table p, rfl, rfl, statusWord_resetOf p, rfl⟩, table _⟩

/-! #### CMDREG (R35) -/

/-- A word is its fields RSV, NB and NA, OP (R80). -/
theorem eq_append_fields (c : Word) : c = rsvField c ++ (signField c ++ opField c) := by
  rw [signField, opField, BitVec.extractLsb'_append_extractLsb'_eq_extractLsb' (by rfl), rsvField,
    BitVec.extractLsb'_append_extractLsb'_eq_extractLsb' (by rfl)]
  exact BitVec.extractLsb'_eq_self.symm

theorem signField_eq (c : Word) : signField c = BitVec.ofBool (nbField c) ++ BitVec.ofBool (naField c) := by
  apply BitVec.eq_of_getLsbD_eq
  intro j hj
  interval_cases j <;> simp only [signField, nbField, naField, BitVec.getLsbD_append] <;> simp

theorem decodeUnsigned_ok {c : Word} {i j : Instr} (h : decodeUnsigned c i = .ok j) : signField c = 0#2 ∧ j = i := by
  unfold decodeUnsigned at h
  split at h
  · cases h; exact ⟨‹_›, rfl⟩
  · cases h

/-- The fields of a word that decodes (R81 to R83). -/
theorem decodeNamed_ok {c : Word} {i : Instr} (h : decodeNamed c = .ok i) :
    rsvField c = 0#22 ∧
      ((opField c = 0x01#8 ∧ signField c = 0#2 ∧ i = .modmul) ∨ (opField c = 0x02#8 ∧ signField c = 0#2 ∧ i = .modexp) ∨
        (opField c = 0x03#8 ∧ i = .extgcd (naField c) (nbField c)) ∨
        (opField c = 0x04#8 ∧ signField c = 0#2 ∧ i = .modinv)) := by
  unfold decodeNamed at h
  split at h
  · cases h
  next hr =>
  refine ⟨not_not.mp hr, ?_⟩
  split at h
  · next ho => exact .inl ⟨ho, decodeUnsigned_ok h⟩
  split at h
  · next ho => exact .inr (.inl ⟨ho, decodeUnsigned_ok h⟩)
  split at h
  · next ho => cases h; exact .inr (.inr (.inl ⟨ho, rfl⟩))
  split at h
  · next ho => exact .inr (.inr (.inr ⟨ho, decodeUnsigned_ok h⟩))
  · cases h

/-- The decoder reads every bit of a word, so that a legal word is its command's own (R84, R88). -/
theorem encode_of_decode {c : Word} {i : Instr} (h : decode c = some i) : encode i = c := by
  have hn : decodeNamed c = .ok i := by
    unfold decode at h
    split at h
    · cases h; assumption
    · cases h
  rw [eq_append_fields c]
  obtain ⟨hr, ⟨ho, hs, rfl⟩ | ⟨ho, hs, rfl⟩ | ⟨ho, rfl⟩ | ⟨ho, hs, rfl⟩⟩ := decodeNamed_ok hn
  · rw [hr, ho, hs]; rfl
  · rw [hr, ho, hs]; rfl
  · rw [hr, ho, signField_eq]
    cases naField c <;> cases nbField c <;> rfl
  · rw [hr, ho, hs]; rfl

/-- Settles O38: an issue writes the word it decodes, and no effect but an issue and a reset writes CMDREG. -/
theorem cmdReadsBackTheLastAcceptedWord : Obligations.CmdReadsBackTheLastAcceptedWord := by
  refine ⟨fun s c rest h hf => ?_, fun s t h hr hc => ?_, fun s rest h => hostRD_answers h rfl rfl, rfl, by decide⟩
  · obtain ⟨t, ht⟩ := writeCommand_completes (s := { s with schedule := rest, resp := some .okay }) hf
    refine ⟨t, (step_hostWR h rfl).trans ht, ?_⟩
    obtain ⟨hb, rfl⟩ | ⟨i, hp, hi, h'⟩ | ⟨hp, -, rfl⟩ := writeCommand_next ht
    · exact (if_pos hb).symm
    · rw [issue_cmdreg h', encode_of_decode hi, if_neg (by simpa [State.busy] using hp)]
    · exact (if_neg (by simpa [State.busy] using hp)).symm
  · have he := step_effect h
    simp only [isReset_eq_resets, isCommandWrite_eq_hits] at hr hc
    generalize action s.hw s.nextEvent = a at he hr hc
    cases he with
    | completes _ h' => exact (completeWith_ends h').2.2
    | issues hp | refusesWord hp => exact absurd ⟨busy_eq_false_iff.mpr hp, rfl⟩ hc
    | hardResets => cases hr
    | softResets hd => cases hd.symm.trans hr
    | writesWord => exact State.setWord_cmdreg ..
    | _ => rfl

/-! #### The interrupt (R47, R180) -/

theorem Action.eq_write_of_hits {q : Target} {f : Word → Bool} {a : Action} (h : a.hits q f = true) :
    ∃ d, a = .write q d ∧ f d = true := by
  cases a with
  | write q' d => simp_all [Action.hits]
  | _ => cases h

theorem irq_eq_ie {t : State} {b : Bool} (hd : t.done = true) (hi : t.ie = b) : t.irq = b := by simp [State.irq, hd, hi]

/-- Settles O45: IE and DONE after the effect of each action named. -/
theorem interruptFollowsIeAndDone : Obligations.InterruptFollowsIeAndDone := by
  refine ⟨fun s => by simp [State.irq], fun s t i hp h => ?_, fun s t h hc hb hb' => ?_, fun s t h hw => ?_,
    fun s t h hw => ?_⟩
  · rw [exec_of_pending hp] at h
    exact irq_eq_ie (completeWith_ends h).2.1 (completeWith_commandFrame h).ie
  · have he := step_effect h
    obtain ⟨d, hd, -⟩ := Action.eq_write_of_hits ((isCommandWrite_eq_hits ..).symm.trans hc)
    rw [hd] at he
    cases he with
    | drops _ hp => cases hb.symm.trans hp
    | issues _ _ hi => 
      obtain ⟨hp, -⟩ | ⟨-, hdone⟩ := issue_inFlight_or_done hi
      · simp [State.busy, hp] at hb'
      · exact irq_eq_ie hdone (issue_commandFrame hi).ie
    | refusesWord => exact irq_eq_ie rfl rfl
    | ignores _ hi => cases hi
  · have he := step_effect h
    obtain ⟨d, hd, hf⟩ := Action.eq_write_of_hits ((isWriteTo_eq_hits ..).symm.trans hw)
    rw [hd] at he
    cases he with
    | softResets hs => simp_all
    | writesIe => simp_all [State.irq]
    | ignores _ hi => cases hi
  · have he := step_effect h
    simp only [isWriteTo_eq_hits, isCommandWrite_eq_hits, isStatusClear_eq_hits, isReset_eq_resets] at hw
    obtain hack | hr | hie | ⟨hc, hb, hb'⟩ := hw
    · obtain ⟨d, hd, hf⟩ := Action.eq_write_of_hits hack
      rw [hd] at he
      cases he with
      | clearsStatus => simp_all [State.irq]
      | ignores _ hi => cases hi
    · obtain ⟨u, rfl⟩ := he.eq_hardReset_of_resets hr
      rfl
    · obtain ⟨d, hd, hf⟩ := Action.eq_write_of_hits hie
      rw [hd] at he
      cases he with
      | softResets => rfl
      | writesIe => simp_all [State.irq]
      | ignores _ hi => cases hi
    · obtain ⟨d, hd, -⟩ := Action.eq_write_of_hits hc
      rw [hd] at he
      cases he with
      | drops _ hp => cases hb.symm.trans hp
      | issues _ _ hi =>
        obtain ⟨-, hdone, -⟩ | ⟨hp, -⟩ := issue_inFlight_or_done hi
        · simp [State.irq, hdone]
        · simp [State.busy, hp] at hb'
      | refusesWord hp => cases hb'.symm.trans (busy_eq_false_iff.mpr rfl)
      | ignores _ hi => cases hi

end Sys2Proof.Machine

/-! #### The results of a command fit W bits (R131, R142, R152) -/

namespace Sys2Proof.Machine

theorem modexpLoop_lt {n : Nat} (hn : 0 < n) (fuel acc b e : Nat) (ha : acc < n) :
    (modexpLoop n fuel acc b e).1 < n := by
  induction fuel generalizing acc b e with
  | zero => exact ha
  | succ fuel ih =>
    unfold modexpLoop
    split
    · exact ha
    split
    · exact hn
    split
    · exact ha
    · apply ih
      split
      · exact Nat.mod_lt _ hn
      · exact ha

theorem modexpValue_lt {n : Nat} (hn : 0 < n) (a e : Nat) : (modexpValue a e n).1 < n :=
  modexpLoop_lt hn _ _ _ _ (Nat.mod_lt _ hn)

/-- What bounds a coefficient sequence of R151: two neighbours differ in sign, and weighted crosswise with their
remainders their magnitudes add up to the other operand's magnitude `m`. -/
structure CoefficientsBounded (m r0 r1 : Nat) (c0 c1 : Int) : Prop where
  cross : r0 * c1.natAbs + r1 * c0.natAbs = m
  signs : c0 * c1 ≤ 0
  first : c0.natAbs ≤ max 1 m
  second : c1.natAbs ≤ max 1 m

/-- Subtracting a multiple of a coefficient of the other sign adds the magnitudes. -/
theorem natAbs_sub_mul {c0 c1 : Int} (h : c0 * c1 ≤ 0) (q : Nat) :
    (c0 - q * c1).natAbs = c0.natAbs + q * c1.natAbs := by
  obtain ⟨h0, h1⟩ | ⟨h0, h1⟩ := mul_nonpos_iff.mp h
  · have : (q : Int) * c1 ≤ 0 := mul_nonpos_of_nonneg_of_nonpos q.cast_nonneg h1
    have hq : q * c1.natAbs = (q * c1).natAbs := by simp [Int.natAbs_mul]
    omega
  · have : 0 ≤ (q : Int) * c1 := mul_nonneg q.cast_nonneg h1
    have hq : q * c1.natAbs = (q * c1).natAbs := by simp [Int.natAbs_mul]
    omega

/-- A division step of R151 keeps the bound. -/
theorem CoefficientsBounded.step {m r0 r1 : Nat} {c0 c1 : Int} (h : CoefficientsBounded m r0 r1 c0 c1) (hr : r1 ≠ 0) :
    CoefficientsBounded m r1 (r0 - r0 / r1 * r1) c1 (c0 - (r0 / r1 : Nat) * c1) := by
  have habs := natAbs_sub_mul h.signs (r0 / r1)
  have hle : r0 / r1 * r1 ≤ r0 := Nat.div_mul_le_self r0 r1
  have hcross : r1 * (c0 - (r0 / r1 : Nat) * c1).natAbs + (r0 - r0 / r1 * r1) * c1.natAbs = m := by
    rw [habs, ← h.cross]
    zify [hle]
    ring
  refine ⟨hcross, ?_, h.second, ?_⟩
  · have := mul_nonneg (Nat.cast_nonneg (α := Int) (r0 / r1)) (mul_self_nonneg c1)
    nlinarith [h.signs]
  · have : (c0 - (r0 / r1 : Nat) * c1).natAbs ≤ r1 * (c0 - (r0 / r1 : Nat) * c1).natAbs :=
      Nat.le_mul_of_pos_left _ (Nat.pos_of_ne_zero hr)
    omega

/-- The loop of R151 returns a remainder and coefficients within the bounds it starts from. -/
theorem egcdLoop_le {ma mb b : Nat} (fuel : Nat) {r0 r1 : Nat} {s0 s1 t0 t1 : Int} (h0 : r0 ≤ b) (h1 : r1 ≤ b)
    (hs : CoefficientsBounded mb r0 r1 s0 s1) (ht : CoefficientsBounded ma r0 r1 t0 t1) :
    (egcdLoop fuel r0 r1 s0 s1 t0 t1).1 ≤ b ∧ (egcdLoop fuel r0 r1 s0 s1 t0 t1).2.1.natAbs ≤ max 1 mb ∧
      (egcdLoop fuel r0 r1 s0 s1 t0 t1).2.2.natAbs ≤ max 1 ma := by
  induction fuel generalizing r0 r1 s0 s1 t0 t1 with
  | zero => exact ⟨h0, hs.first, ht.first⟩
  | succ fuel ih =>
    unfold egcdLoop
    split
    · exact ⟨h0, hs.first, ht.first⟩
    · next hr => exact ih h1 ((Nat.sub_le ..).trans h0) (hs.step hr) (ht.step hr)

theorem natAbs_signCorrect (neg : Bool) (m : Nat) (z : Int) : (signCorrect neg m z).natAbs = z.natAbs := by
  unfold signCorrect
  split
  · exact Int.natAbs_neg z
  · rfl

/-- R152: the bounds of `egcd`. -/
theorem egcd_le (ma : Nat) (na : Bool) (mb : Nat) (nb : Bool) :
    (egcd ma na mb nb).1 ≤ max ma mb ∧ (egcd ma na mb nb).2.1.natAbs ≤ max 1 mb ∧
      (egcd ma na mb nb).2.2.natAbs ≤ max 1 ma := by
  simp only [egcd, natAbs_signCorrect]
  exact egcdLoop_le _ (le_max_left ..) (le_max_right ..) ⟨by simp, by simp, by simp, by simp⟩
    ⟨by simp, by simp, by simp, by simp⟩

/-- G, X and Y of W-bit magnitudes fit W bits (R152). -/
theorem bezoutResults_egcd_fits {p : Params} (hp : 1 ≤ p.nw) {ma mb : Nat} (na nb : Bool) (ha : ma < 2 ^ p.width)
    (hb : mb < 2 ^ p.width) : (bezoutResults (egcd ma na mb nb)).fits p = true := by
  have hone : 1 < 2 ^ p.width := Nat.one_lt_two_pow (by unfold Params.width; omega)
  obtain ⟨hg, hx, hy⟩ := egcd_le ma na mb nb
  refine (Results.fits_iff ..).mpr ⟨rfl, ?_, ?_, ?_⟩ <;> refine (fitsWidth_some ..).mpr ?_
  · exact hg.trans_lt (max_lt ha hb)
  · exact hx.trans_lt (max_lt hone hb)
  · exact hy.trans_lt (max_lt hone ha)

/-- R of MODINV is reduced (R161), so it fits where N does. -/
theorem reduceCoefficient_lt (x : Int) {n : Nat} (hn : n ≠ 0) : reduceCoefficient x n < n := by
  have := Int.emod_lt_of_pos x (by omega : (0 : Int) < n)
  have := Int.emod_nonneg x (by omega : (n : Int) ≠ 0)
  unfold reduceCoefficient
  omega

/-- No command computes a result on legal register lengths that does not fit (R152, log 9). -/
theorem resultOf_fits {s : State} {i : Instr} (hs : s.Shaped = true) (hz : s.modulusZero i = false) :
    (resultOf i s.operands).fits s.hw = true := by
  have hnw := (Params.nw_pos_of_legal ((shaped_iff s).mp hs).1).1
  have ha := val_lt_of_shaped hs .a
  have hb := val_lt_of_shaped hs .b
  have hn := val_lt_of_shaped hs .n
  have below : ∀ {v : Nat}, v < s.val .n → fitsWidth s.hw (some v) = true := fun hv =>
    (fitsWidth_some ..).mpr (hv.trans hn)
  cases i with
  | modmul =>
    have h0 : s.val .n ≠ 0 := by simpa [State.modulusZero, usesModulus] using hz
    exact (Results.fits_iff ..).mpr ⟨below (Nat.mod_lt _ (Nat.pos_of_ne_zero h0)), rfl, rfl, rfl⟩
  | modexp =>
    have h0 : s.val .n ≠ 0 := by simpa [State.modulusZero, usesModulus] using hz
    exact (Results.fits_iff ..).mpr ⟨below (modexpValue_lt (Nat.pos_of_ne_zero h0) ..), rfl, rfl, rfl⟩
  | extgcd na nb => exact bezoutResults_egcd_fits hnw na nb ha hb
  | modinv =>
    have h0 : s.val .n ≠ 0 := by simpa [State.modulusZero, usesModulus] using hz
    obtain ⟨-, hg, hx, hy⟩ := (Results.fits_iff ..).mp (bezoutResults_egcd_fits hnw false false ha hn)
    refine (Results.fits_iff ..).mpr ⟨?_, hg, hx, hy⟩
    simp only [resultOf, modinvResults, inverseResults]
    split
    · exact below (reduceCoefficient_lt _ h0)
    · rfl

/-! #### A command in flight and the transactions around it (R45, R109, R110) -/

/-- On defined operands the modulus of a command in flight is not 0 (R104). -/
theorem modulusZero_of_inFlight {s : State} {i : Instr} (hf : s.FlightOk = true) (hp : s.pend = some i)
    (hd : s.operandsDefined i = true) : s.modulusZero i = false := by
  obtain ⟨-, -, -, hz, -⟩ := (flightOk_iff hp).mp hf
  by_cases hm : usesModulus i = true
  · refine hz ?_
    cases i <;> simp_all [State.operandsDefined, operandRegs, usesModulus]
  · simp [State.modulusZero, hm]

/-- From the invariant a command in flight on defined operands completes by writing its results. -/
theorem exec_inFlight {s : State} {i : Instr} (h : s.Inv = true) (hp : s.pend = some i)
    (hd : s.operandsDefined i = true) : exec i s = .next (s.writeResults (resultOf i s.operands)) := by
  obtain ⟨hs, hf, -⟩ := (inv_iff s).mp h
  have hz := modulusZero_of_inFlight hf hp hd
  exact exec_of_fits hp hd hz (resultOf_fits hs hz)

theorem State.Undisturbed.trans {s t u : State} (h : s.Undisturbed t) (h' : t.Undisturbed u) : s.Undisturbed u := by
  obtain ⟨ha, hb, he, hn⟩ := h.operands
  obtain ⟨hr, hg, hx, hy, hxs, hys, hes⟩ := h.results
  obtain ⟨ha', hb', he', hn'⟩ := h'.operands
  obtain ⟨hr', hg', hx', hy', hxs', hys', hes'⟩ := h'.results
  exact ⟨h'.hw.trans h.hw, h'.onUndef.trans h.onUndef, h'.pend.trans h.pend, h'.errcode.trans h.errcode,
    h'.cmdreg.trans h.cmdreg, h'.done ∘ h.done, ⟨ha.trans ha', hb.trans hb', he.trans he', hn.trans hn'⟩,
    ⟨hr.trans hr', hg.trans hg', hx.trans hx', hy.trans hy', hxs.trans hxs', hys.trans hys', hes.trans hes'⟩⟩

/-- While BUSY an action that is neither the engine's step nor a reset leaves the command in flight alone (R109). -/
theorem Effect.undisturbed {s t : State} {a : Action} (he : Effect s a t) (hp : s.pend ≠ none) (hc : a ≠ .complete)
    (hr : a.resets = false) : s.Undisturbed t := by
  cases he with
  | completes => exact absurd rfl hc
  | hardResets => cases hr
  | softResets hd => cases hd.symm.trans hr
  | engineIdles h | issues h | refusesWord h | writesWord _ _ _ h => exact absurd h hp
  | clearsStatus d => exact ⟨rfl, rfl, rfl, rfl, rfl, fun hd => by simp [hd], .refl s, .refl s⟩
  | _ => exact ⟨rfl, rfl, rfl, rfl, rfl, id, .refl s, .refl s⟩

/-- Only a step takes events off the schedule, not what it does. -/
theorem Effect.schedule {s t : State} {a : Action} (he : Effect s a t) : t.schedule = s.schedule := by
  cases he with
  | completes _ hc => exact (completeWith_commandFrame hc).schedule
  | issues _ _ hi => exact (issue_commandFrame hi).schedule
  | writesWord => exact State.setWord_schedule ..
  | _ => rfl

/-- A transaction of the aperture is not outside it for the port either. -/
theorem action_ne_outside {p : Params} {ev : Event} (h : eventInAperture p ev = true) : action p ev ≠ .outside := by
  cases ev with
  | read addr size =>
    obtain ⟨-, -, h'⟩ | ⟨-, -, h'⟩ | ⟨hp, -⟩ := access_cases p addr size .read
    · simp [action, h']
    · simp [action, h']
    · cases h.symm.trans hp
  | write addr size d =>
    obtain ⟨-, -, h'⟩ | ⟨-, -, h'⟩ | ⟨hp, -⟩ := access_cases p addr size (.write · d)
    · simp [action, h']
    · simp [action, h']
    · cases h.symm.trans hp
  | complete | hardReset => exact Action.noConfusion

/-- While BUSY no transaction of the aperture stops the machine: a CMD write is dropped. -/
theorem act_completes {s : State} {a : Action} (hp : s.pend ≠ none) (hc : a ≠ .complete) (ho : a ≠ .outside) :
    ∃ t, s.act a = .next t := by
  cases a with
  | write q d =>
    have hb : State.busy { s with resp := some .okay } = true := Option.isSome_iff_ne_none.mpr hp
    exact writeTarget_completes fun _ => by simp [State.faultsAtIssue, hb]
  | complete => exact absurd rfl hc
  | outside => exact absurd rfl ho
  | _ => exact ⟨_, rfl⟩

/-- A quiet transaction while BUSY is a step that leaves the command in flight alone. -/
theorem step_quiet {s : State} {ev : Event} {rest : List Event} (h : s.schedule = ev :: rest) (hp : s.pend ≠ none)
    (hq : isQuiet s.hw ev = true) : ∃ t, step s = .next t ∧ s.Undisturbed t ∧ t.schedule = rest := by
  simp only [isQuiet, isReset_eq_resets, Bool.and_eq_true, Bool.not_eq_true', bne_iff_ne, ne_eq,
    eq_complete_iff s.hw] at hq
  obtain ⟨⟨ha, hr⟩, hc⟩ := hq
  have hev : s.nextEvent = ev := by simp [State.nextEvent, h]
  obtain ⟨t, ht⟩ := act_completes (s := s.taken) hp hc (action_ne_outside ha)
  have hst : step s = .next t := by rw [step_eq_act, hev, ht]
  have he := step_effect hst
  rw [hev] at he
  have h0 : s.Undisturbed s.taken := ⟨rfl, rfl, rfl, rfl, rfl, id, .refl s, .refl s⟩
  exact ⟨t, hst, h0.trans (he.undisturbed hp hc hr), by rw [he.schedule, State.taken_schedule, h, List.tail_cons]⟩

theorem run_succ_of_step {s t : State} (h : step s = .next t) (k : Nat) :
    Host.Core.run core (k + 1) s = Host.Core.run core k t := by
  simp only [Host.Core.run, show core.step s = .next t from h]

/-- Any quiet transactions while BUSY leave the command in flight alone, and whatever runs after them runs on. -/
theorem run_quiet {s : State} {evs rest : List Event} (h : s.schedule = evs ++ rest) (hp : s.pend ≠ none)
    (hq : evs.all (isQuiet s.hw) = true) :
    ∃ t, s.Undisturbed t ∧ t.schedule = rest ∧
      ∀ k, Host.Core.run core (evs.length + k) s = Host.Core.run core k t := by
  induction evs generalizing s with
  | nil => exact ⟨s, ⟨rfl, rfl, rfl, rfl, rfl, id, .refl s, .refl s⟩, h, fun k => by rw [List.length_nil, Nat.zero_add]⟩
  | cons ev evs ih =>
    obtain ⟨hev, hevs⟩ := Bool.and_eq_true_iff.mp hq
    obtain ⟨t, hst, hu, hsch⟩ := step_quiet h hp hev
    obtain ⟨u, hu', hsch', hrun⟩ := ih hsch (hu.pend ▸ hp) (hu.hw ▸ hevs)
    refine ⟨u, hu.trans hu', hsch', fun k => ?_⟩
    rw [List.length_cons, Nat.succ_add, run_succ_of_step hst, hrun]

/-- The same results written from an undisturbed state leave the same registers and flags. -/
theorem State.Undisturbed.sameResults_writeResults {s t : State} (h : s.Undisturbed t) (res : Results) :
    (t.writeResults res).SameResults (s.writeResults res) := by
  obtain ⟨hr, hg, hx, hy, hxs, hys, hes⟩ := h.results
  simp [State.SameResults, h.hw, hr, hg, hx, hy, hxs, hys, hes]

theorem State.Undisturbed.operands_eq {s t : State} (h : s.Undisturbed t) : t.operands = s.operands := by
  simp only [State.operands, State.val, h.reg]

theorem State.Undisturbed.operandsDefined_eq {s t : State} (h : s.Undisturbed t) (i : Instr) :
    t.operandsDefined i = s.operandsDefined i := by
  have : t.regDefined = s.regDefined := funext fun q => congrArg wordsDefined (h.reg q)
  rw [State.operandsDefined, this, State.operandsDefined]

/-- Settles O29: the quiet transactions leave an undisturbed state, and there the engine makes the same completion. -/
theorem transactionsDoNotDisturbACommand : Obligations.TransactionsDoNotDisturbACommand := by
  intro s i evs rest h hp hd hq hs
  obtain ⟨u, hu, hsch, hrun⟩ := run_quiet hs (by simp [hp]) hq
  have h0 : u.Undisturbed { u with schedule := rest } := ⟨rfl, rfl, rfl, rfl, rfl, id, .refl u, .refl u⟩
  have hv := hu.trans h0
  have hcomplete := exec_inFlight (hv.inv h) (hv.pend.trans hp) ((hv.operandsDefined_eq i).trans hd)
  rw [hv.operands_eq] at hcomplete
  have hstep : step u = exec i { u with schedule := rest } := by
    rw [step_of_cons hsch, State.perform, State.engineStep, show State.pend _ = some i from hv.pend.trans hp]
  refine ⟨_, _, exec_inFlight h hp hd, (hrun 1).trans (run_succ_of_step (hstep.trans hcomplete) 0),
    hv.sameResults_writeResults _, ?_, rfl, rfl, rfl, hv.cmdreg, rfl⟩
  obtain ⟨ha, hb, he, hn⟩ := hv.operands
  exact ⟨ha.symm, hb.symm, he.symm, hn.symm⟩

end Sys2Proof.Machine

/-! ### Memory (20_memory.md): which accesses the port accepts, and what a refused one and a read leave alone -/

namespace Sys2Proof.Machine

/-! #### The accepted offsets (R21, R63 to R65) -/

/-- The windows are the KiB 1 to 8 of the aperture and no others (R21). -/
theorem windowAt_eq_none_iff : ∀ i : Nat, windowAt i = none ↔ i = 0 ∨ 9 ≤ i
  | 0 | 1 | 2 | 3 | 4 | 5 | 6 | 7 | 8 => by decide
  | i + 9 => by simp [windowAt_eq_none]

/-- From 0x018 on an offset reaches the window of its KiB, or is reserved (R21, R65). -/
theorem target_of_ge {off : Nat} (h : 0x018 ≤ off) :
    target off = (windowAt (off / windowSize)).elim .reserved fun q => .slot q (off % windowSize / 4) := by
  have hne : ∀ c < 0x018, off ≠ c := fun c hc => by omega
  cases hw : windowAt (off / windowSize) <;> simp [target, hne, hw]

/-- The aligned offsets below 0x018 are the control registers' (R21). -/
theorem target_of_lt {off : Nat} (hal : off % 4 = 0) (h : off < 0x018) :
    target off ∈ [Target.id, .hwcfg, .ctrl, .status, .cmd, .rflags] := by
  obtain rfl | rfl | rfl | rfl | rfl | rfl :
      off = 0x000 ∨ off = 0x004 ∨ off = 0x008 ∨ off = 0x00C ∨ off = 0x010 ∨ off = 0x014 := by omega
  all_goals decide

/-- The offsets reserved by R65: those of no control register and of no window. -/
theorem target_eq_reserved_iff {off : Nat} (hal : off % 4 = 0) :
    target off = .reserved ↔ (0x018 ≤ off ∧ off < 0x400) ∨ 0x2400 ≤ off := by
  by_cases hlow : off < 0x018
  · have hctl := target_of_lt hal hlow
    refine iff_of_false (fun hres => ?_) (by omega)
    rw [hres] at hctl
    simp at hctl
  · have hwin : windowAt (off / windowSize) = none ↔ off < 0x400 ∨ 0x2400 ≤ off := by
      rw [windowAt_eq_none_iff, windowSize]
      omega
    have hres : target off = .reserved ↔ windowAt (off / windowSize) = none := by
      rw [target_of_ge (Nat.not_lt.mp hlow)]
      cases windowAt (off / windowSize) <;> simp
    rw [hres, hwin]
    omega

theorem target_eq_cmd {off : Nat} (h : target off = .cmd) : off = offsetCmd := by
  unfold target at h
  split_ifs at h
  · assumption
  · split at h <;> cases h

/-- The port accepts the aligned 32-bit accesses to the control registers and the windows (R63 to R65). -/
theorem accepted_iff (off size : Nat) :
    accepted off size = true ↔ size = 4 ∧ off % 4 = 0 ∧ (off < 0x018 ∨ (0x400 ≤ off ∧ off < 0x2400)) := by
  simp only [accepted, Bool.and_eq_true, beq_iff_eq, bne_iff_ne, and_assoc]
  refine and_congr_right fun _ => and_congr_right fun hal => ?_
  rw [ne_eq, target_eq_reserved_iff hal]
  omega

theorem inAperture_base_add (p : Params) {off : Nat} (h : off < 0x4000) : inAperture p (p.base + off) = true := by
  simp [inAperture, apertureSize, h]

/-! #### The statements about accesses -/

/-- Settles O32: by `accepted_iff` none of these accesses is accepted, and the port answers the others with `busError`. -/
theorem refusedAccessHasNoEffect : Obligations.RefusedAccessHasNoEffect := by
  intro s off size d rest hoff hbad
  have hin := inAperture_base_add s.hw hoff
  have hno : accepted off size = false := by
    rw [Bool.eq_false_iff, ne_eq, accepted_iff]
    omega
  refine ⟨fun h => ?_, fun h => ?_⟩ <;> rw [step_of_cons h]
  · simp [State.perform, State.busRead, hin, hno, State.busError]
  · simp [State.perform, State.busWrite, hin, hno, State.busError]

/-- An accepted write is answered OKAY, whatever its effect. -/
theorem Effect.resp_of_write {s t : State} {q : Target} {d : Word} (he : Effect s (.write q d) t) :
    t.resp = some .okay := by
  cases he with
  | issues _ _ hi => exact (issue_commandFrame hi).resp
  | writesWord => exact State.setWord_resp ..
  | _ => rfl

/-- Settles O33: such an offset is accepted, and a write there goes on but for the issue at which the model faults. -/
theorem alignedMappedAccessIsAccepted : Obligations.AlignedMappedAccessIsAccepted := by
  intro s off d rest hal hmap
  have ha : accepted off 4 = true := (accepted_iff off 4).mpr ⟨rfl, hal, hmap⟩
  refine ⟨fun h => ?_, fun h hf => ?_⟩
  · obtain ⟨t, ht, hr⟩ := hostRD_answers h ha rfl
    exact ⟨t, _, ht, hr⟩
  · obtain ⟨t, ht⟩ := writeTarget_completes (s := { s with schedule := rest, resp := some .okay }) (q := target off)
      (d := d) fun hq => hf (target_eq_cmd hq)
    exact ⟨t, (step_hostWR h ha).trans ht, (writeTarget_effect (s := { s with schedule := rest }) ht).resp_of_write⟩

/-- Settles O34: a read in the aperture is accepted or answered SLVERR, and neither writes the spec's state. -/
theorem readsHaveNoSideEffects : Obligations.ReadsHaveNoSideEffects := by
  intro s addr size rest hin h
  rw [step_of_cons h, State.perform, State.busRead, if_pos hin]
  split
  · exact ⟨_, rfl, rfl⟩
  · exact ⟨_, rfl, rfl⟩

/-! #### The byte lanes (R61) -/

/-- The four lanes of a word put together are the word. -/
theorem wordOfLanes_lanes (c : Word) :
    wordOfLanes (c.extractLsb' 0 8) (c.extractLsb' 8 8) (c.extractLsb' 16 8) (c.extractLsb' 24 8) = c := by
  rw [wordOfLanes, BitVec.extractLsb'_append_extractLsb'_eq_extractLsb' (by rfl),
    BitVec.extractLsb'_append_extractLsb'_eq_extractLsb' (by rfl),
    BitVec.extractLsb'_append_extractLsb'_eq_extractLsb' (by rfl)]
  exact BitVec.extractLsb'_eq_self

/-- Settles O4: the lanes are read back as the word, and each outcome of its decoding is passed on. -/
theorem byteLanesDecodeAsTheWord : Obligations.ByteLanesDecodeAsTheWord := by
  intro c rest
  simp only [bytesOfWord, List.cons_append, List.nil_append, decodeBytes, wordOfLanes_lanes]
  cases decodeNamed c with
  | ok i => rfl
  | error r => rfl

end Sys2Proof.Machine

/-! ### Encoding (30_encoding.md): the seven words, and the host's sequences LOAD and ISSUE -/

namespace Sys2Proof.Machine

/-! #### Legal and illegal words (R84 to R89) -/

/-- Settles O1: the decoder inverts the encoder from both sides, and the seven words are evaluated. -/
theorem eachCommandHasItsWord : Obligations.EachCommandHasItsWord := by
  refine ⟨fun c i => ⟨fun h => (encode_of_decode h).symm, fun h => ?_⟩, by decide⟩
  rw [h, decode_encode]

theorem decode_ne_none_iff_decodeNamed_ok (c : Word) : decode c ≠ none ↔ ∃ i, decodeNamed c = .ok i := by
  unfold decode
  cases decodeNamed c <;> simp

/-- The fields of a legal word: no reserved bit, and the OP of EXTGCD with any sign bits or another OP with none. -/
theorem decode_ne_none_iff_fields (c : Word) :
    decode c ≠ none ↔ rsvField c = 0#22 ∧
      (opField c = 0x03#8 ∨ (opField c = 0x01#8 ∨ opField c = 0x02#8 ∨ opField c = 0x04#8) ∧ signField c = 0#2) := by
  rw [decode_ne_none_iff_decodeNamed_ok]
  constructor
  · rintro ⟨i, h⟩
    obtain ⟨hr, ⟨ho, hs, -⟩ | ⟨ho, hs, -⟩ | ⟨ho, -⟩ | ⟨ho, hs, -⟩⟩ := decodeNamed_ok h
    · exact ⟨hr, .inr ⟨.inl ho, hs⟩⟩
    · exact ⟨hr, .inr ⟨.inr (.inl ho), hs⟩⟩
    · exact ⟨hr, .inl ho⟩
    · exact ⟨hr, .inr ⟨.inr (.inr ho), hs⟩⟩
  · rintro ⟨hr, ho | ⟨ho | ho | ho, hs⟩⟩
    · exact ⟨.extgcd (naField c) (nbField c), by simp [decodeNamed, hr, ho]⟩
    · exact ⟨.modmul, by simp [decodeNamed, decodeUnsigned, hr, ho, hs]⟩
    · exact ⟨.modexp, by simp [decodeNamed, decodeUnsigned, hr, ho, hs]⟩
    · exact ⟨.modinv, by simp [decodeNamed, decodeUnsigned, hr, ho, hs]⟩

/-- The illegal words by R89's four bullets: below 5 and not 0, OP is one of the four. -/
theorem decode_eq_none_iff_fields (c : Word) :
    decode c = none ↔ opField c = 0x00#8 ∨ 5 ≤ (opField c).toNat ∨ rsvField c ≠ 0#22 ∨
      (opField c ≠ 0x03#8 ∧ signField c ≠ 0#2) := by
  have hop : (opField c = 0x01#8 ∨ opField c = 0x02#8 ∨ opField c = 0x03#8 ∨ opField c = 0x04#8) ↔
      opField c ≠ 0x00#8 ∧ (opField c).toNat < 5 := by bv_omega
  rw [← not_iff_not, ← ne_eq, decode_ne_none_iff_fields]
  have h3 : opField c = 0x03#8 → opField c ≠ 0x00#8 ∧ (opField c).toNat < 5 := fun h => hop.mp (by simp [h])
  rw [← not_lt]
  tauto

/-- The words of the commands, listed. -/
theorem mem_legalWords_iff (c : Word) :
    c ∈ [0x00000001#32, 0x00000002#32, 0x00000003#32, 0x00000103#32, 0x00000203#32, 0x00000303#32, 0x00000004#32] ↔
      ∃ i, encode i = c := by
  constructor
  · intro h
    simp only [List.mem_cons, List.not_mem_nil, or_false] at h
    obtain rfl | rfl | rfl | rfl | rfl | rfl | rfl := h
    · exact ⟨.modmul, rfl⟩
    · exact ⟨.modexp, rfl⟩
    · exact ⟨.extgcd false false, rfl⟩
    · exact ⟨.extgcd true false, rfl⟩
    · exact ⟨.extgcd false true, rfl⟩
    · exact ⟨.extgcd true true, rfl⟩
    · exact ⟨.modinv, rfl⟩
  · rintro ⟨i, rfl⟩
    cases i with
    | extgcd na nb => cases na <;> cases nb <;> decide
    | modmul | modexp | modinv => decide

/-- A word is legal exactly when it is some command's own. -/
theorem decode_ne_none_iff_encode (c : Word) : decode c ≠ none ↔ ∃ i, encode i = c := by
  rw [Option.ne_none_iff_exists']
  constructor
  · rintro ⟨i, h⟩
    exact ⟨i, encode_of_decode h⟩
  · rintro ⟨i, rfl⟩
    exact ⟨i, decode_encode i⟩

/-- Settles O2: the bullets are those of the fields, the seven words those of the commands, and an illegal word while
idle is `State.issueIllegal`. -/
theorem illegalWordsAreAllButSeven : Obligations.IllegalWordsAreAllButSeven := by
  refine ⟨decode_eq_none_iff_fields, fun c => (decode_ne_none_iff_encode c).trans (mem_legalWords_iff c).symm,
    fun s c hp hd => ⟨s.issueIllegal c, ?_, rfl, rfl, rfl, .refl s, .refl s⟩⟩
  simp [State.writeCommand, hp, hd]

/-! #### LOAD (R95) -/

/-- While idle a write to a slot below NW of an operand register is answered OKAY and writes the word (R102). -/
theorem step_hostWR_operand {s : State} {q : Reg} {k : Nat} {d : Word} {rest : List Event}
    (h : s.schedule = hostWR s.hw (slotOffset q k) d :: rest) (hk256 : k < 256) (hk : k < s.hw.nw)
    (hq : isOperand q = true) (hp : s.pend = none) :
    step s = .next ({ s with schedule := rest, resp := some .okay }.setWord q k d) := by
  rw [step_hostWR h (accepted_slotOffset q hk256), target_slotOffset q hk256]
  simp [State.writeTarget, State.writeSlot, State.busy, Nat.not_le.mpr hk, hq, hp]

/-- The words that LOAD leaves in a register when it writes from word `k` on. -/
def loadedFrom (ws : WideReg) (v count k : Nat) : WideReg := ws.take k ++ wordsOf count (v / 2 ^ (32 * k))

/-- The first write of LOAD puts word `k` in its place, and the others go on from word `k + 1`. -/
theorem loadedFrom_set {ws : WideReg} {k : Nat} (h : k < ws.length) (v count : Nat) :
    loadedFrom (ws.set k ⟨valueWord v k, true⟩) v count (k + 1) = loadedFrom ws v (count + 1) k := by
  have hv : v / 2 ^ (32 * k) / 2 ^ 32 = v / 2 ^ (32 * (k + 1)) := by
    rw [Nat.div_div_eq_div_mul, ← pow_add, Nat.mul_succ]
  rw [loadedFrom, loadedFrom, wordsOf, hv, ← valueWord, List.take_succ_eq_append_getElem (by simpa using h),
    List.take_set_of_le (Nat.le_refl k)]
  simp

@[simp] theorem reg_scheduled (s : State) (evs : List Event) (answer : Option Response) (q : Reg) :
    State.reg { s with schedule := evs, resp := answer } q = s.reg q := rfl

theorem setReg_reg_self (s : State) (q : Reg) : s.setReg q (s.reg q) = s := by cases q <;> rfl

/-- The later of two writes of a whole register stands. -/
theorem setReg_setReg (s : State) (q : Reg) (ws ws' : WideReg) : (s.setReg q ws).setReg q ws' = s.setReg q ws' := by
  cases q <;> rfl

/-- The state after the `count` writes of LOAD from word `k` on: the register is written, the last write (if there is
one) is answered OKAY, and the rest of the schedule is left. -/
def State.afterLoad (s : State) (q : Reg) (v count k : Nat) (rest : List Event) : State :=
  { s.setReg q (loadedFrom (s.reg q) v count k) with
    schedule := rest, resp := if count = 0 then s.resp else some .okay }

theorem afterLoad_zero {s : State} {q : Reg} {k : Nat} {rest : List Event} (v : Nat) (h : s.schedule = rest)
    (hk : (s.reg q).length = k) : s.afterLoad q v 0 k rest = s := by
  have hw : loadedFrom (s.reg q) v 0 k = s.reg q := by simp [loadedFrom, wordsOf, ← hk]
  subst h
  rw [State.afterLoad, hw, setReg_reg_self]
  rfl

theorem afterLoad_setWord {s : State} {q : Reg} {k : Nat} (h : k < (s.reg q).length) (v count : Nat)
    (evs rest : List Event) :
    State.afterLoad ({ s with schedule := evs, resp := some .okay }.setWord q k (valueWord v k)) q v count (k + 1) rest =
      s.afterLoad q v (count + 1) k rest := by
  rw [State.afterLoad, State.afterLoad, State.reg_setWord, if_pos rfl, reg_scheduled, loadedFrom_set h, State.setWord,
    setReg_setReg]
  cases q <;> simp [State.setReg]

/-- The writes of LOAD from word `k` up to the register's last, made while idle (R95, R102). -/
theorem run_hostLoadFrom {s : State} {q : Reg} {v count k : Nat} {rest : List Event}
    (h : s.schedule = hostLoadFrom s.hw q v count k ++ rest) (hs : s.hw.nw ≤ 256) (hlen : (s.reg q).length = s.hw.nw)
    (hk : k + count = s.hw.nw) (hq : isOperand q = true) (hp : s.pend = none) :
    Host.Core.run core count s = .next (s.afterLoad q v count k rest) := by
  induction count generalizing s k with
  | zero => exact congrArg Host.Outcome.next (afterLoad_zero v h (hlen.trans hk.symm)).symm
  | succ count ih =>
    have hstep := step_hostWR_operand h (by omega) (by omega) hq hp
    rw [run_succ_of_step hstep, ih, afterLoad_setWord (by omega)]
    · simp
    · exact (State.setWord_hw ..).symm ▸ hs
    · simpa using hlen
    · simp only [State.setWord_hw]; omega
    · simpa using hp

/-- Settles O44: from word 0 on LOAD leaves the words of the value, and no other register is written. -/
theorem loadWritesTheWholeRegister : Obligations.LoadWritesTheWholeRegister := by
  intro s q v rest hs hp hq hv h
  obtain ⟨hlegal, hlen⟩ := (shaped_iff s).mp hs
  obtain ⟨hnw, hnw'⟩ := Params.nw_pos_of_legal hlegal
  have hop : isOperand q = true := by obtain rfl | rfl | rfl | rfl := hq <;> rfl
  have hreg (q' : Reg) : (s.afterLoad q v s.hw.nw 0 rest).reg q' = if q' = q then wordsOf s.hw.nw v else s.reg q' := by
    rw [← State.reg_setReg]
    cases q' <;> simp [State.afterLoad, loadedFrom]
  refine ⟨_, run_hostLoadFrom h hnw' (hlen q) (Nat.zero_add _) hop hp, ?_, ?_, fun q' hne => ?_, ?_⟩
  · rw [State.val, hreg, if_pos rfl, wordsValue_wordsOf hv]
  · rw [State.regDefined, hreg, if_pos rfl, wordsDefined_wordsOf]
  · rw [hreg, if_neg hne]
  · rw [State.afterLoad, if_neg (by omega)]
    obtain rfl | rfl | rfl | rfl := hq <;> rfl

/-! #### MODEXP from ISSUE to its result (R95, R104, R110, R142) -/

/-- The loop of R140 computes `acc * b^e mod n` when its bound covers the bits of `e`; a base 0 or 1 ends it early with
that value. -/
theorem modexpLoop_eq {n : Nat} (fuel : Nat) {acc : Nat} (b : Nat) {e : Nat} (ha : acc % n = acc) (he : e < 2 ^ fuel) :
    (modexpLoop n fuel acc b e).1 = acc * b ^ e % n := by
  induction fuel generalizing acc b e with
  | zero =>
    obtain rfl : e = 0 := by omega
    simp [modexpLoop, ha]
  | succ fuel ih =>
    unfold modexpLoop
    split
    next he0 => simp [he0, ha]
    next he0 =>
    split
    next hb => simp [hb, he0]
    split
    next hb => simp [hb, ha]
    have hacc : (if e % 2 = 1 then acc * b % n else acc) = acc * b ^ (e % 2) % n := by
      obtain h | h := Nat.mod_two_eq_zero_or_one e <;> simp [h, ha]
    have hpow : b ^ e = b ^ (e % 2) * (b * b) ^ (e / 2) := by
      rw [← pow_two, ← pow_mul, ← pow_add, Nat.mod_add_div]
    rw [hacc, ih _ (Nat.mod_mod ..) (by omega), hpow, ← mul_assoc, Nat.mul_mod, Nat.mod_mod, ← Nat.pow_mod,
      ← Nat.mul_mod]

/-- R142: MODEXP computes the power, for `0^0 = 1` too. -/
theorem modexpValue_eq (a e n : Nat) : (modexpValue a e n).1 = a ^ e % n := by
  rw [modexpValue, modexpFuel, modexpLoop_eq _ _ (Nat.mod_mod ..) Nat.lt_log2_self, Nat.mul_mod, Nat.mod_mod, ← Nat.pow_mod,
    ← Nat.mul_mod, one_mul]

/-- On defined operands and a nonzero modulus a legal word written to CMD while idle puts its command in flight (R104). -/
theorem writeCommand_starts {s : State} {i : Instr} (hp : s.pend = none) (hd : s.operandsDefined i = true)
    (hz : s.modulusZero i = false) :
    s.writeCommand (encode i) = .next ((s.acceptCommand (encode i)).startCommand i) := by
  simp [State.writeCommand, hp, decode_encode, exec_of_idle, State.issue, hd, hz]

/-- The state with command `i` issued and answered OKAY, and `rest` still scheduled. -/
def State.issued (s : State) (i : Instr) (rest : List Event) : State :=
  ({ s with schedule := rest, resp := some .okay }.acceptCommand (encode i)).startCommand i

/-- ISSUE is such a write (R95). -/
theorem step_hostIssue {s : State} {i : Instr} {rest : List Event} (h : s.schedule = hostIssue s.hw i :: rest)
    (hp : s.pend = none) (hd : s.operandsDefined i = true) (hz : s.modulusZero i = false) :
    step s = .next (s.issued i rest) :=
  (step_hostWR h rfl).trans (writeCommand_starts hp hd hz)

/-- The engine's step on a command in flight whose operands are defined and whose modulus is not 0 (R110). -/
theorem engineStep_writesResults {s : State} {i : Instr} (hs : s.Shaped = true) (hp : s.pend = some i)
    (hd : s.operandsDefined i = true) (hz : s.modulusZero i = false) :
    s.engineStep = .next (s.writeResults (resultOf i s.operands)) := by
  rw [State.engineStep, hp]
  exact exec_of_fits hp hd hz (resultOf_fits hs hz)

/-- The same step where the schedule places it. -/
theorem step_complete {s : State} {i : Instr} {rest : List Event} (h : s.schedule = .complete :: rest)
    (hs : s.Shaped = true) (hp : s.pend = some i) (hd : s.operandsDefined i = true) (hz : s.modulusZero i = false) :
    step s = .next ({ s with schedule := rest }.writeResults (resultOf i s.operands)) :=
  (step_of_cons h).trans (engineStep_writesResults (s := { s with schedule := rest }) hs hp hd hz)

/-- A command issued and completed leaves its results, computed from the operands before the issue. -/
theorem run_issue_complete {s : State} {i : Instr} {rest : List Event}
    (h : s.schedule = hostIssue s.hw i :: .complete :: rest) (hs : s.Shaped = true) (hp : s.pend = none)
    (hd : s.operandsDefined i = true) (hz : s.modulusZero i = false) :
    Host.Core.run core 2 s = .next ((s.issued i rest).writeResults (resultOf i s.operands)) :=
  (run_succ_of_step (step_hostIssue h hp hd hz) 1).trans
    (run_succ_of_step (step_complete (s := s.issued i (.complete :: rest)) rfl hs rfl hd hz) 0)

/-- Settles O30: the run writes the results of MODEXP, and R is the power, which fits. -/
theorem modexpRunsFromIssueToResult : Obligations.ModexpRunsFromIssueToResult := by
  intro s rest hs hp hd hn h
  have hz : s.modulusZero .modexp = false := by simp [State.modulusZero, usesModulus, hn]
  obtain ⟨hfits, -⟩ := (Results.fits_iff ..).mp (resultOf_fits hs hz)
  have hfits' := (fitsWidth_some ..).mp hfits
  refine ⟨_, run_issue_complete h hs hp hd hz, ?_, wordsDefined_wordsOf .., rfl, rfl, rfl, rfl, rfl⟩
  exact (wordsValue_wordsOf hfits').trans (modexpValue_eq ..)

end Sys2Proof.Machine

/-! ### Commands (40_command.md): the CMD write, the checks of an issue, and the write to an operand window -/

namespace Sys2Proof.Machine

/-! #### The CMD write, case by case (R103 to R106) -/

theorem writeCommand_of_busy {s : State} (hp : s.pend ≠ none) (c : Word) :
    s.writeCommand c = .next s.dropCommand := by
  obtain ⟨j, hj⟩ := Option.ne_none_iff_exists'.mp hp
  simp [State.writeCommand, hj]

theorem writeCommand_of_legal {s : State} {c : Word} {i : Instr} (hp : s.pend = none) (hd : decode c = some i) :
    s.writeCommand c = exec i s := by
  simp [State.writeCommand, hp, hd]

theorem writeCommand_of_illegal {s : State} {c : Word} (hp : s.pend = none) (hd : decode c = none) :
    s.writeCommand c = .next (s.issueIllegal c) := by
  simp [State.writeCommand, hp, hd]

/-- Settles O5: the write reaches CMD, and there a legal word on an idle block is its command. -/
theorem stepRunsTheDecodedCommand : Obligations.StepRunsTheDecodedCommand :=
  fun _ _ _ _ h hp hd => (step_hostWR h rfl).trans (writeCommand_of_legal hp hd)

/-- Settles O10: the write reaches CMD, and a busy block drops it. -/
theorem commandWhileBusyOnlySetsOvr : Obligations.CommandWhileBusyOnlySetsOvr :=
  fun s c rest h hp =>
    (step_hostWR h rfl).trans (writeCommand_of_busy (s := { s with schedule := rest, resp := some .okay }) hp c)

/-! #### The engine's step (R109, R110) -/

theorem engineStep_of_pending {s : State} {i : Instr} (hp : s.pend = some i) : s.engineStep = exec i s := by
  rw [State.engineStep, hp]

/-- Settles O6: the next event is the engine's, and taking it off the schedule leaves PEND. -/
theorem stepCompletesTheCommandInFlight : Obligations.StepCompletesTheCommandInFlight := by
  intro s i hev hp
  rw [step_eq, hev]
  exact engineStep_of_pending (s := s.taken) hp

/-! #### The checks of an issue, in order (R104, R105, R107) -/

theorem modulusZero_iff (s : State) (i : Instr) : s.modulusZero i = true ↔ usesModulus i = true ∧ s.val .n = 0 := by
  simp [State.modulusZero]

theorem issue_of_modulus {s : State} {i : Instr} (hd : s.operandsDefined i = true)
    (hn : usesModulus i = true → s.val .n ≠ 0) :
    s.issue i = .next ((s.acceptCommand (encode i)).startCommand i) := by
  have hz : ¬ s.modulusZero i = true := fun h => have ⟨hu, h0⟩ := (modulusZero_iff s i).mp h; hn hu h0
  rw [State.issue, if_pos hd, if_neg hz]

theorem issue_of_zero_modulus {s : State} {i : Instr} (hd : s.operandsDefined i = true) (hu : usesModulus i = true)
    (h0 : s.val .n = 0) : s.issue i = .next ((s.acceptCommand (encode i)).endCommand .invalidModulus) := by
  rw [State.issue, if_pos hd, if_pos ((modulusZero_iff s i).mpr ⟨hu, h0⟩)]

theorem issue_of_undef {s : State} {i : Instr} (hd : s.operandsDefined i = false) (ho : s.onUndef = .modelFaults) :
    s.issue i = .fault .undefOperand := by
  simp [State.issue, hd, ho]

/-- A command that ends at its issue leaves PEND `none`, as it was. -/
theorem endCommand_acceptCommand_of_idle {s : State} (hp : s.pend = none) (c : Word) (code : ErrorCode) :
    (s.acceptCommand c).endCommand code = { s with cmdreg := c, done := true, errcode := code } := by
  simp [State.endCommand, State.acceptCommand, hp]

/-- A is an operand of every command (R108). -/
theorem operandsDefined_of_undef_a {s : State} (i : Instr) (h : s.regDefined .a = false) :
    s.operandsDefined i = false := by
  have ha : Reg.a ∈ operandRegs i := by cases i <;> simp [operandRegs]
  exact List.all_eq_false.mpr ⟨.a, ha, by simp [h]⟩

/-- Settles O7: the three checks in their order; right after reset A is UNDEF, so that the second one faults. -/
theorem issuePutsTheCommandInFlight : Obligations.IssuePutsTheCommandInFlight := by
  refine ⟨fun s i hp hd hn => ?_, fun s i hp hd hu h0 => ?_, fun s i hp hd ho => ?_, fun p i h => ?_,
    fun s c hp => ⟨fun hd => ?_, fun i hd => ⟨encode_of_decode hd, writeCommand_of_legal hp hd⟩⟩⟩
  · rw [exec_of_idle i hp, issue_of_modulus hd hn]
    rfl
  · rw [exec_of_idle i hp, issue_of_zero_modulus hd hu h0, endCommand_acceptCommand_of_idle hp]
  · rw [exec_of_idle i hp, issue_of_undef hd ho]
  · have ha : (State.resetOf p).regDefined .a = false := wordsDefined_undefReg (Params.nw_pos_of_legal h).1
    rw [exec_of_idle i rfl, issue_of_undef (operandsDefined_of_undef_a i ha) rfl]
  · rw [writeCommand_of_illegal hp hd, State.issueIllegal, endCommand_acceptCommand_of_idle hp]

/-! #### The write to an operand window (R102) -/

/-- While busy a write to a slot below NW of an operand register is answered OKAY and sets WBUSY only. -/
theorem step_hostWR_operand_of_busy {s : State} {q : Reg} {k : Nat} {d : Word} {rest : List Event}
    (h : s.schedule = hostWR s.hw (slotOffset q k) d :: rest) (hk256 : k < 256) (hk : k < s.hw.nw)
    (hq : isOperand q = true) (hb : s.busy = true) :
    step s = .next { s with schedule := rest, resp := some .okay, wbusy := true } := by
  have hp : s.pend.isSome = true := hb
  rw [step_hostWR h (accepted_slotOffset q hk256), target_slotOffset q hk256]
  simp [State.writeTarget, State.writeSlot, State.busy, Nat.not_le.mpr hk, hq, hp]

theorem getElem?_reg_setWord {s : State} {q : Reg} {k : Nat} (h : k < (s.reg q).length) (d : Word) (j : Nat) :
    ((s.setWord q k d).reg q)[j]? = if j = k then some { bits := d, defined := true } else (s.reg q)[j]? := by
  rw [State.reg_setWord, if_pos rfl, List.getElem?_set, if_pos h]
  simp only [eq_comm]

/-- Settles O40: the three ends of such a write; the last one writes word `k` of the one register. -/
theorem operandWindowWrite : Obligations.OperandWindowWrite := by
  intro s q k d rest hs hk256 hq h
  have hop : isOperand q = true := by obtain rfl | rfl | rfl | rfl := hq <;> rfl
  by_cases hk : s.hw.nw ≤ k
  · simp only [if_pos hk]
    exact ⟨_, step_hostWR_inert h hk256 (.inl hk), rfl⟩
  have hk' : k < s.hw.nw := Nat.lt_of_not_le hk
  by_cases hb : s.busy = true
  · simp only [if_neg hk, if_pos hb]
    exact ⟨_, step_hostWR_operand_of_busy h hk256 hk' hop hb, rfl⟩
  · simp only [if_neg hk, if_neg hb]
    have hp : s.pend = none := busy_eq_false_iff.mp (Bool.eq_false_iff.mpr hb)
    have hlen : k < (s.reg q).length := ((shaped_iff s).mp hs).2 q ▸ hk'
    refine ⟨_, step_hostWR_operand h hk256 hk' hop hp,
      getElem?_reg_setWord (s := { s with schedule := rest, resp := some .okay }) hlen d, fun q' hne => ?_, ?_⟩
    · rw [State.reg_setWord, if_neg hne, reg_scheduled]
    · obtain rfl | rfl | rfl | rfl := hq <;> rfl

end Sys2Proof.Machine

/-! ### MODMUL (41_modmul.md): the completion of a command on a nonzero modulus, and the residue -/

namespace Sys2Proof.Machine

/-! #### The completion on defined operands (R110) -/

theorem modulusZero_eq_false {s : State} {i : Instr} (hn : usesModulus i = true → s.val .n ≠ 0) :
    s.modulusZero i = false :=
  Bool.eq_false_iff.mpr fun h => have ⟨hu, h0⟩ := (modulusZero_iff s i).mp h; hn hu h0

/-- On legal register lengths, defined operands and, for a command that uses N, a nonzero N, the command in flight
completes by writing its results. -/
theorem exec_writesResults {s : State} {i : Instr} (hs : s.Shaped = true) (hp : s.pend = some i)
    (hd : s.operandsDefined i = true) (hn : usesModulus i = true → s.val .n ≠ 0) :
    exec i s = .next (s.writeResults (resultOf i s.operands)) :=
  have hz := modulusZero_eq_false hn
  exec_of_fits hp hd hz (resultOf_fits hs hz)

/-- A listed value that fits is the value its register holds after the completion. -/
theorem wordsValue_resultWords {p : Params} {v : Nat} (h : v < 2 ^ p.width) (old : WideReg) :
    wordsValue (resultWords p.nw (some v) old) = v :=
  wordsValue_wordsOf h

/-! #### The laws of the residue (R133) -/

theorem modmulValue_lt (a b : Nat) {n : Nat} (hn : n ≠ 0) : modmulValue a b n < n :=
  Nat.mod_lt _ (Nat.pos_of_ne_zero hn)

theorem modmulValue_comm (a b n : Nat) : modmulValue a b n = modmulValue b a n :=
  congrArg (· % n) (Nat.mul_comm a b)

theorem modmulValue_mod_mod (a b n : Nat) : modmulValue (a % n) (b % n) n = modmulValue a b n :=
  (Nat.mul_mod a b n).symm

theorem modmulValue_one (b n : Nat) : modmulValue 1 b n = b % n :=
  congrArg (· % n) (Nat.one_mul b)

/-- Settles O13: each law is one of `%` and the product. -/
theorem modmulLaws : Obligations.ModmulLaws :=
  fun a b n hn => ⟨modmulValue_lt a b hn, modmulValue_comm a b n, (modmulValue_mod_mod a b n).symm, modmulValue_one b n⟩

/-! #### The completion of MODMUL (R130 to R132) -/

/-- Settles O12: the completion writes the results of MODMUL, and the residue, below N, fits the register R. -/
theorem modmulWritesTheResidue : Obligations.ModmulWritesTheResidue := by
  intro s hs hp hd hn
  have hfits : modmulValue (s.val .a) (s.val .b) (s.val .n) < 2 ^ s.hw.width :=
    (modmulValue_lt _ _ hn).trans (val_lt_of_shaped hs .n)
  exact ⟨_, exec_writesResults hs hp hd fun _ => hn, wordsValue_resultWords hfits s.r, wordsDefined_wordsOf ..,
    wordsOf_length .., rfl, rfl, rfl, rfl, rfl⟩

end Sys2Proof.Machine

/-! ### MODEXP (42_modexp.md): the bound on the loop, the early exit, and the completion -/

namespace Sys2Proof.Machine

/-! #### The loop and its bound (R140, R143) -/

theorem modexpLoop_zero_exponent (n fuel acc b : Nat) : modexpLoop n fuel acc b 0 = (acc, false) := by
  cases fuel <;> rfl

/-- One turn of R140. -/
theorem modexpLoop_succ (n fuel acc b e : Nat) :
    modexpLoop n (fuel + 1) acc b e =
      if e = 0 then (acc, false)
      else if b = 0 then (0, true)
      else if b = 1 then (acc, true)
      else modexpLoop n fuel (if e % 2 = 1 then acc * b % n else acc) (b * b % n) (e / 2) := rfl

/-- A turn takes one bit off the exponent. -/
theorem div_two_lt_two_pow {e k : Nat} (h : e < 2 ^ (k + 1)) : e / 2 < 2 ^ k :=
  Nat.div_lt_of_lt_mul (Nat.pow_succ' ▸ h)

theorem lt_two_pow_modexpFuel (e : Nat) : e < 2 ^ modexpFuel e := Nat.lt_log2_self

/-- Two bounds that both cover the bits of the exponent give the same loop (R143). -/
theorem modexpLoop_congr_fuel {n fuel fuel' acc b e : Nat} (h : e < 2 ^ fuel) (h' : e < 2 ^ fuel') :
    modexpLoop n fuel acc b e = modexpLoop n fuel' acc b e := by
  induction fuel generalizing fuel' acc b e with
  | zero =>
    obtain rfl : e = 0 := Nat.lt_one_iff.mp h
    simp only [modexpLoop_zero_exponent]
  | succ fuel ih =>
    cases fuel' with
    | zero =>
      obtain rfl : e = 0 := Nat.lt_one_iff.mp h'
      simp only [modexpLoop_zero_exponent]
    | succ fuel' =>
      rw [modexpLoop_succ, modexpLoop_succ, ih (div_two_lt_two_pow h) (div_two_lt_two_pow h')]

/-- Settles O16: one turn leaves a bound that covers `e / 2`, as `modexpFuel (e / 2)` does. -/
theorem modexpLoopUnrolls : Obligations.ModexpLoopUnrolls := by
  intro n acc b e fuel h
  obtain ⟨k, rfl⟩ := Nat.exists_eq_add_of_le' (Nat.le_of_add_left_le h : 1 ≤ fuel)
  have he : e < 2 ^ (k + 1) := (lt_two_pow_modexpFuel e).trans_le (Nat.pow_le_pow_right two_pos h)
  rw [modexpLoop_succ, modexpLoop_congr_fuel (div_two_lt_two_pow he) (lt_two_pow_modexpFuel _)]

/-! #### The early exit (R141) -/

/-- The test of R141 succeeds after some number `k` of turns: the exponent is not used up, the base is 0 or 1. -/
def ExitsEarly (n b e : Nat) : Prop := ∃ k, e / 2 ^ k ≠ 0 ∧ b ^ 2 ^ k % n ≤ 1

theorem not_exitsEarly_zero (n b : Nat) : ¬ ExitsEarly n b 0 := fun ⟨_, h, _⟩ => h (Nat.zero_div _)

/-- The test succeeds now, or after the turn that squares the base and halves the exponent. -/
theorem exitsEarly_iff (n b e : Nat) :
    ExitsEarly n b e ↔ (e ≠ 0 ∧ b % n ≤ 1) ∨ ExitsEarly n (b * b % n) (e / 2) := by
  have hnext (k : Nat) : (b * b % n) ^ 2 ^ k % n = b ^ 2 ^ (k + 1) % n := by
    rw [← Nat.pow_mod, ← pow_two, ← pow_mul, ← pow_succ']
  have hhalf (k : Nat) : e / 2 / 2 ^ k = e / 2 ^ (k + 1) := by rw [Nat.div_div_eq_div_mul, pow_succ']
  simp only [ExitsEarly, hnext, hhalf]
  constructor
  · rintro ⟨_ | k, h⟩
    · exact .inl (by simpa using h)
    · exact .inr ⟨k, h⟩
  · rintro (h | ⟨k, h⟩)
    · exact ⟨0, by simpa using h⟩
    · exact ⟨k + 1, h⟩

/-- The base enters the test reduced or not. -/
theorem exitsEarly_mod (n b e : Nat) : ExitsEarly n (b % n) e ↔ ExitsEarly n b e := by
  simp only [ExitsEarly, ← Nat.pow_mod]

/-- From a reduced base the loop answers EARLY = 1 exactly when the test succeeds within the exponent's bits. -/
theorem modexpLoop_early_iff {n fuel acc b e : Nat} (hb : b % n = b) (he : e < 2 ^ fuel) :
    (modexpLoop n fuel acc b e).2 = true ↔ ExitsEarly n b e := by
  induction fuel generalizing acc b e with
  | zero =>
    obtain rfl : e = 0 := Nat.lt_one_iff.mp he
    simp [modexpLoop_zero_exponent, not_exitsEarly_zero]
  | succ fuel ih =>
    obtain rfl | he0 := eq_or_ne e 0
    · simp [modexpLoop_zero_exponent, not_exitsEarly_zero]
    rw [modexpLoop_succ, if_neg he0, exitsEarly_iff, hb]
    split
    next h0 => simp [h0, he0]
    split
    next h1 => simp [h1, he0]
    next h0 h1 =>
      have hb2 : ¬ b ≤ 1 := by omega
      simp [ih (Nat.mod_mod ..) (div_two_lt_two_pow he), hb2]

theorem modexpValue_early_iff (a e n : Nat) : (modexpValue a e n).2 = true ↔ ExitsEarly n a e :=
  (modexpLoop_early_iff (Nat.mod_mod ..) (lt_two_pow_modexpFuel e)).trans (exitsEarly_mod ..)

/-! #### The completion of MODEXP (R140, R142) -/

/-- On defined operands and, for a command that uses N, a nonzero N, a completion that goes on writes the results. -/
theorem eq_writeResults_of_exec {s t : State} {i : Instr} (hp : s.pend = some i) (hd : s.operandsDefined i = true)
    (hn : usesModulus i = true → s.val .n ≠ 0) (h : exec i s = .next t) :
    t = s.writeResults (resultOf i s.operands) := by
  rw [exec_of_pending hp] at h
  obtain ⟨-, hz, -⟩ | ⟨-, -, -, h'⟩ | ⟨-, -, -, h'⟩ | ⟨hd', -⟩ := completeWith_cases s i (resultOf i) (freeOf i)
  · exact absurd hz (Bool.eq_false_iff.mp (modulusZero_eq_false hn))
  · exact Host.Outcome.next.inj (h.symm.trans h')
  · cases h.symm.trans h'
  · cases hd.symm.trans hd'

/-- Settles O14: the completion writes the results of MODEXP, and the power mod N, below N, fits the register R. -/
theorem modexpWritesThePower : Obligations.ModexpWritesThePower := by
  intro s hs hp hd hn
  have hfits : (modexpValue (s.val .a) (s.val .e) (s.val .n)).1 < 2 ^ s.hw.width :=
    (modexpValue_lt (Nat.pos_of_ne_zero hn) ..).trans (val_lt_of_shaped hs .n)
  exact ⟨_, exec_writesResults hs hp hd fun _ => hn, (wordsValue_resultWords hfits s.r).trans (modexpValue_eq ..),
    wordsDefined_wordsOf .., wordsOf_length .., rfl, rfl, rfl, rfl, rfl⟩

/-- Settles O15: EARLY is the second result of MODEXP, and the loop exits early exactly when its test succeeds. -/
theorem modexpEarlyIsExact : Obligations.ModexpEarlyIsExact := by
  intro s t hp hd hn h
  rw [eq_writeResults_of_exec hp hd (fun _ => hn) h]
  exact modexpValue_early_iff ..

end Sys2Proof.Machine

/-! ### EXTGCD and MODINV (43_gcd.md): the loop of R151 and its bound, the Bézout law, and the completions -/

namespace Sys2Proof.Machine

/-! #### The loop and its bound (R151, R158) -/

theorem egcdLoop_zero_remainder (fuel r0 : Nat) (s0 s1 t0 t1 : Int) :
    egcdLoop fuel r0 0 s0 s1 t0 t1 = (r0, s0, t0) := by
  cases fuel <;> rfl

/-- One turn of R151: its next remainder is the one of the division. -/
theorem egcdLoop_succ (fuel r0 r1 : Nat) (s0 s1 t0 t1 : Int) :
    egcdLoop (fuel + 1) r0 r1 s0 s1 t0 t1 =
      if r1 = 0 then (r0, s0, t0)
      else egcdLoop fuel r1 (r0 % r1) s1 (s0 - (r0 / r1 : Nat) * s1) t1 (t0 - (r0 / r1 : Nat) * t1) := by
  rw [Nat.mod_eq_sub_div_mul]
  rfl

/-- From the remainders `r0` and `r1` the loop comes to remainder 0 within `fuel` divisions. -/
def EuclidEnds : Nat → Nat → Nat → Prop
  | 0, _, r1 => r1 = 0
  | fuel + 1, r0, r1 => r1 = 0 ∨ EuclidEnds fuel r1 (r0 % r1)

theorem euclidEnds_zero_remainder (fuel r0 : Nat) : EuclidEnds fuel r0 0 := by
  cases fuel
  · exact rfl
  · exact .inl rfl

theorem EuclidEnds.mono {fuel fuel' r0 r1 : Nat} (h : EuclidEnds fuel r0 r1) (hle : fuel ≤ fuel') :
    EuclidEnds fuel' r0 r1 := by
  induction fuel generalizing fuel' r0 r1 with
  | zero => exact (show r1 = 0 from h) ▸ euclidEnds_zero_remainder fuel' r0
  | succ fuel ih =>
    obtain ⟨k, rfl⟩ := Nat.exists_eq_add_of_le' (Nat.le_of_add_left_le hle : 1 ≤ fuel')
    exact h.imp_right fun h => ih h (Nat.le_of_succ_le_succ hle)

/-- A remainder is less than half of what was divided, unless the divisor is larger. -/
theorem mod_lt_two_pow_of_le {r ρ k : Nat} (hρ : 0 < ρ) (hle : ρ ≤ r) (hr : r < 2 ^ (k + 1)) : r % ρ < 2 ^ k := by
  have hmod : r % ρ < ρ := Nat.mod_lt r hρ
  have hdiv : ρ + r % ρ ≤ r := by
    have := Nat.le_mul_of_pos_right ρ (Nat.div_pos hle hρ)
    have := Nat.div_add_mod r ρ
    omega
  rw [pow_succ] at hr
  omega

/-- Two divisions take one bit off the second remainder (R158). -/
theorem euclidEnds_of_lt_two_pow {k r0 r1 : Nat} (h : r1 < 2 ^ k) : EuclidEnds (2 * k) r0 r1 := by
  induction k generalizing r0 r1 with
  | zero => exact Nat.lt_one_iff.mp h
  | succ k ih =>
    obtain h1 | h1 := Nat.eq_zero_or_pos r1
    · exact .inl h1
    obtain h2 | h2 := Nat.eq_zero_or_pos (r0 % r1)
    · exact .inr (.inl h2)
    · exact .inr (.inr (ih (mod_lt_two_pow_of_le h2 (Nat.mod_lt r0 h1).le h)))

/-- The model's bound on the iterations is enough (log 18). -/
theorem euclidEnds_egcdFuel (r0 r1 : Nat) : EuclidEnds (egcdFuel r1) r0 r1 :=
  (euclidEnds_of_lt_two_pow Nat.lt_log2_self).mono (Nat.le_succ _)

/-- Two bounds that are both enough give the same loop. -/
theorem egcdLoop_congr_fuel {fuel fuel' r0 r1 : Nat} (h : EuclidEnds fuel r0 r1) (h' : EuclidEnds fuel' r0 r1)
    (s0 s1 t0 t1 : Int) : egcdLoop fuel r0 r1 s0 s1 t0 t1 = egcdLoop fuel' r0 r1 s0 s1 t0 t1 := by
  induction fuel generalizing fuel' r0 r1 s0 s1 t0 t1 with
  | zero =>
    obtain rfl : r1 = 0 := h
    simp only [egcdLoop_zero_remainder]
  | succ fuel ih =>
    obtain rfl | hr := eq_or_ne r1 0
    · simp only [egcdLoop_zero_remainder]
    cases fuel' with
    | zero => exact absurd h' hr
    | succ fuel' =>
      rw [egcdLoop_succ, egcdLoop_succ, ih (h.resolve_left hr) (h'.resolve_left hr)]

/-- Settles O20: one turn leaves a bound that is enough for the next remainders, as theirs is. -/
theorem egcdLoopUnrolls : Obligations.EgcdLoopUnrolls := by
  intro r0 r1 fuel s0 s1 t0 t1 hle
  obtain ⟨k, rfl⟩ := Nat.exists_eq_add_of_le' (Nat.le_of_add_left_le hle : 1 ≤ fuel)
  rw [egcdLoop_succ]
  split
  next => rfl
  next hr =>
    have hk : EuclidEnds k r1 (r0 % r1) := ((euclidEnds_egcdFuel r0 r1).mono hle).resolve_left hr
    exact egcdLoop_congr_fuel hk (euclidEnds_egcdFuel ..) ..

/-! #### The greatest common divisor and the Bézout law (R156) -/

theorem egcdLoop_gcd {fuel r0 r1 : Nat} (h : EuclidEnds fuel r0 r1) (s0 s1 t0 t1 : Int) :
    (egcdLoop fuel r0 r1 s0 s1 t0 t1).1 = Nat.gcd r0 r1 := by
  induction fuel generalizing r0 r1 s0 s1 t0 t1 with
  | zero =>
    obtain rfl : r1 = 0 := h
    exact (Nat.gcd_zero_right r0).symm
  | succ fuel ih =>
    rw [egcdLoop_succ]
    split
    next hr => rw [hr, Nat.gcd_zero_right]
    next hr => rw [ih (h.resolve_left hr), Nat.gcd_comm r1, ← Nat.gcd_rec, Nat.gcd_comm]

/-- The loop keeps each remainder the combination of `a` and `b` that its coefficients say. -/
theorem egcdLoop_bezout {a b : Int} (fuel : Nat) {r0 r1 : Nat} {s0 s1 t0 t1 : Int} (h0 : a * s0 + b * t0 = r0)
    (h1 : a * s1 + b * t1 = r1) :
    a * (egcdLoop fuel r0 r1 s0 s1 t0 t1).2.1 + b * (egcdLoop fuel r0 r1 s0 s1 t0 t1).2.2 =
      (egcdLoop fuel r0 r1 s0 s1 t0 t1).1 := by
  induction fuel generalizing r0 r1 s0 s1 t0 t1 with
  | zero => exact h0
  | succ fuel ih =>
    rw [egcdLoop_succ]
    split
    next => exact h0
    next =>
      have hdiv : (r1 : Int) * (r0 / r1 : Nat) + (r0 % r1 : Nat) = r0 := mod_cast Nat.div_add_mod r0 r1
      refine ih h1 ?_
      linear_combination h0 - (r0 / r1 : Nat) * h1 - hdiv

/-- A sign on the operand and the correction of its coefficient cancel (R154, R155). -/
theorem signedOperand_mul_signCorrect (neg : Bool) (m : Nat) (z : Int) :
    signedOperand neg m * signCorrect neg m z = m * z := by
  obtain rfl | hm := eq_or_ne m 0
  · cases neg <;> simp [signedOperand]
  · cases neg <;> simp [signedOperand, signCorrect, hm]

theorem egcd_gcd (ma : Nat) (na : Bool) (mb : Nat) (nb : Bool) : (egcd ma na mb nb).1 = Nat.gcd ma mb :=
  egcdLoop_gcd (euclidEnds_egcdFuel ma mb) ..

theorem egcd_bezout (ma : Nat) (na : Bool) (mb : Nat) (nb : Bool) :
    signedOperand na ma * (egcd ma na mb nb).2.1 + signedOperand nb mb * (egcd ma na mb nb).2.2 =
      (egcd ma na mb nb).1 := by
  simp only [egcd, signedOperand_mul_signCorrect]
  exact egcdLoop_bezout _ (by simp) (by simp)

/-- Settles O19: G is the gcd, and the bounds of `egcd` are below `2^w` where the operands and 1 are. -/
theorem egcdOutputsFit : Obligations.EgcdOutputsFit := by
  intro ma mb g x y na nb h
  obtain ⟨hg, hx, hy⟩ := egcd_le ma na mb nb
  have hgcd := egcd_gcd ma na mb nb
  simp only [h] at hg hx hy hgcd
  refine ⟨hgcd, hg, hx, hy, fun w hw ha hb => ?_⟩
  have hone : 1 < 2 ^ w := Nat.one_lt_two_pow (by omega)
  exact ⟨hg.trans_lt (max_lt ha hb), hx.trans_lt (max_lt hone hb), hy.trans_lt (max_lt hone ha)⟩

/-! #### The corner cases (R153, R155) -/

@[simp] theorem signCorrect_zero_magnitude (neg : Bool) (z : Int) : signCorrect neg 0 z = z := by
  simp [signCorrect]

@[simp] theorem signCorrect_zero (neg : Bool) (m : Nat) : signCorrect neg m 0 = 0 := by
  simp [signCorrect]

theorem signCorrect_one (neg : Bool) {m : Nat} (hm : m ≠ 0) : signCorrect neg m 1 = if neg then -1 else 1 := by
  simp [signCorrect, hm]

theorem egcd_zero_right (ma : Nat) (na nb : Bool) : egcd ma na 0 nb = (ma, signCorrect na ma 1, 0) := by
  simp only [egcd, egcdLoop_zero_remainder, signCorrect_zero]

/-- One division ends the loop when the second magnitude divides the first. -/
theorem egcd_of_dvd {ma mb : Nat} (na nb : Bool) (hb : mb ≠ 0) (h : mb ∣ ma) :
    egcd ma na mb nb = (mb, 0, if nb then -1 else 1) := by
  have hmod : ma % mb = 0 := Nat.mod_eq_zero_of_dvd h
  simp only [egcd, egcdFuel, egcdLoop_succ, if_neg hb, hmod, egcdLoop_zero_remainder, signCorrect_zero, mul_zero,
    sub_zero, signCorrect_one nb hb]

/-- Settles O21: with B = 0 no division is made, and m divides 0 and itself. -/
theorem egcdCornerCases : Obligations.EgcdCornerCases := by
  intro na nb m hm
  refine ⟨?_, egcd_of_dvd na nb hm (dvd_zero m), ?_, egcd_of_dvd na nb hm dvd_rfl⟩
  · rw [egcd_zero_right, signCorrect_zero_magnitude]
  · rw [egcd_zero_right, signCorrect_one na hm]

/-- The sign of a zero magnitude does not enter `egcd` (R155). -/
theorem egcd_zero_left_sign (na : Bool) (mb : Nat) (nb : Bool) : egcd 0 na mb nb = egcd 0 false mb nb := by
  simp only [egcd, signCorrect_zero_magnitude]

theorem egcd_zero_right_sign (ma : Nat) (na nb : Bool) : egcd ma na 0 nb = egcd ma na 0 false := by
  simp only [egcd_zero_right]

/-! #### The triple in the registers (R153, R160) -/

/-- G, X and Y hold the magnitudes of a triple (g, x, y), all their words defined, the sign flags its signs, and EARLY
is 0. -/
structure State.HoldsTriple (t : State) (gxy : Nat × Int × Int) : Prop where
  g : t.val .g = gxy.1
  x : t.val .x = gxy.2.1.natAbs
  y : t.val .y = gxy.2.2.natAbs
  gDefined : t.regDefined .g = true
  xDefined : t.regDefined .x = true
  yDefined : t.regDefined .y = true
  xneg : t.xneg = { bit := signFlag gxy.2.1, defined := true }
  yneg : t.yneg = { bit := signFlag gxy.2.2, defined := true }
  early : t.early = { bit := false, defined := true }

/-- On legal register lengths a completion that writes the triple of `egcd` on A and another register, whatever it does
to R and ERRCODE, leaves the triple in the registers: it fits them (R152). -/
theorem holdsTriple_writeResults {s : State} (hs : s.Shaped = true) (q : Reg) (na nb : Bool) (r : Option Nat)
    (err : ErrorCode) :
    (s.writeResults { bezoutResults (egcd (s.val .a) na (s.val q) nb) with r := r, err := err }).HoldsTriple
      (egcd (s.val .a) na (s.val q) nb) := by
  have hnw := (Params.nw_pos_of_legal ((shaped_iff s).mp hs).1).1
  have hfits := bezoutResults_egcd_fits hnw na nb (val_lt_of_shaped hs .a) (val_lt_of_shaped hs q)
  obtain ⟨-, hg, hx, hy⟩ := (Results.fits_iff ..).mp hfits
  exact {
    g := wordsValue_resultWords ((fitsWidth_some ..).mp hg) s.g
    x := wordsValue_resultWords ((fitsWidth_some ..).mp hx) s.x
    y := wordsValue_resultWords ((fitsWidth_some ..).mp hy) s.y
    gDefined := wordsDefined_wordsOf ..
    xDefined := wordsDefined_wordsOf ..
    yDefined := wordsDefined_wordsOf ..
    xneg := rfl
    yneg := rfl
    early := rfl }

theorem signedOperand_signFlag (z : Int) : signedOperand (signFlag z) z.natAbs = z := by
  unfold signedOperand signFlag
  split
  next h => rw [Int.ofNat_natAbs_of_nonpos (of_decide_eq_true h).le, neg_neg]
  next h => exact Int.natAbs_of_nonneg (by simpa using h)

theorem State.HoldsTriple.signedX {t : State} {gxy : Nat × Int × Int} (h : t.HoldsTriple gxy) :
    signedOperand t.xneg.bit (t.val .x) = gxy.2.1 := by
  rw [h.xneg, h.x, signedOperand_signFlag]

theorem State.HoldsTriple.signedY {t : State} {gxy : Nat × Int × Int} (h : t.HoldsTriple gxy) :
    signedOperand t.yneg.bit (t.val .y) = gxy.2.2 := by
  rw [h.yneg, h.y, signedOperand_signFlag]

theorem signFlag_of_natAbs_eq_zero {z : Int} (h : z.natAbs = 0) : signFlag z = false := by
  rw [Int.natAbs_eq_zero.mp h]
  rfl

/-! #### The completion of EXTGCD (R153 to R156) -/

/-- On legal register lengths and defined operands EXTGCD in flight completes by writing its results. -/
theorem exec_extgcd {s : State} {na nb : Bool} (hs : s.Shaped = true) (hp : s.pend = some (.extgcd na nb))
    (hd : s.operandsDefined (.extgcd na nb) = true) :
    exec (.extgcd na nb) s = .next (s.writeResults (extgcdResults na nb s.operands)) :=
  exec_writesResults hs hp hd nofun

theorem holdsTriple_extgcd {s : State} (hs : s.Shaped = true) (na nb : Bool) :
    (s.writeResults (extgcdResults na nb s.operands)).HoldsTriple (egcd (s.val .a) na (s.val .b) nb) :=
  holdsTriple_writeResults hs .b na nb none .noError

/-- Settles O17: the completion writes the results of EXTGCD, which are the triple of `egcd`. -/
theorem extgcdWritesTheTriple : Obligations.ExtgcdWritesTheTriple := by
  intro s na nb g x y hs hp hd h
  have ht := holdsTriple_extgcd hs na nb
  rw [h] at ht
  exact ⟨_, exec_extgcd hs hp hd, ht.g, ht.x, ht.y, ht.gDefined, ht.xDefined, ht.yDefined, ht.xneg, ht.yneg, ht.early,
    rfl, rfl, rfl, rfl⟩

theorem natAbs_signedOperand (neg : Bool) (m : Nat) : (signedOperand neg m).natAbs = m := by
  cases neg <;> simp [signedOperand]

/-- Settles O18: the registers hold the triple of `egcd`, which has both laws. -/
theorem extgcdBezoutLaw : Obligations.ExtgcdBezoutLaw := by
  intro s na nb hs hp hd
  have ht := holdsTriple_extgcd hs na nb
  refine ⟨_, exec_extgcd hs hp hd, ?_, ?_⟩
  · rw [ht.signedX, ht.signedY, ht.g]
    exact egcd_bezout ..
  · rw [ht.g, egcd_gcd, Int.gcd, natAbs_signedOperand, natAbs_signedOperand]

/-- EXTGCD with other sign bits completes alike where its results are the same. -/
theorem exec_extgcd_congr {s : State} {na nb na' nb' : Bool} (hs : s.Shaped = true)
    (hd : s.operandsDefined (.extgcd na nb) = true)
    (h : extgcdResults na' nb' s.operands = extgcdResults na nb s.operands) :
    exec (.extgcd na' nb') { s with pend := some (.extgcd na' nb') } =
      .next (s.writeResults (extgcdResults na nb s.operands)) :=
  h ▸ exec_extgcd (s := { s with pend := some (.extgcd na' nb') }) hs rfl hd

/-- Settles O22: without the sign of a zero operand `egcd` is the same, and so is the completion. -/
theorem negativeZeroIsZero : Obligations.NegativeZeroIsZero := by
  intro s na nb hs hp hd
  have ht := holdsTriple_extgcd hs na nb
  refine ⟨_, exec_extgcd hs hp hd, fun ha => exec_extgcd_congr hs hd ?_, fun hb => exec_extgcd_congr hs hd ?_,
    fun hx => ?_, fun hy => ?_⟩
  · simp only [extgcdResults, State.operands, ha, egcd_zero_left_sign na]
  · simp only [extgcdResults, State.operands, hb, egcd_zero_right_sign _ na nb]
  · rw [ht.xneg]
    exact signFlag_of_natAbs_eq_zero (ht.x ▸ hx)
  · rw [ht.yneg]
    exact signFlag_of_natAbs_eq_zero (ht.y ▸ hy)

/-! #### The completion of MODINV (R160, R161) -/

theorem natCast_reduceCoefficient (x : Int) {n : Nat} (hn : n ≠ 0) : (reduceCoefficient x n : Int) = x % n :=
  Int.toNat_of_nonneg (Int.emod_nonneg x (by omega))

theorem holdsTriple_modinv {s : State} (hs : s.Shaped = true) :
    (s.writeResults (modinvResults s.operands)).HoldsTriple (egcd (s.val .a) false (s.val .n) false) :=
  holdsTriple_writeResults hs .n false false _ _

/-- Settles O23: the completion writes the results of MODINV: the triple of `egcd`, and R and ERRCODE by whether G is
1; R, below N, fits its register. -/
theorem modinvWritesTheInverse : Obligations.ModinvWritesTheInverse := by
  intro s g x y hs hp hd hn h
  have ht := holdsTriple_modinv hs
  rw [h] at ht
  have hres : modinvResults s.operands = inverseResults (g, x, y) (reduceCoefficient x (s.val .n)) := by
    simp only [modinvResults, State.operands, h]
  refine ⟨_, exec_writesResults hs hp hd fun _ => hn, ht.g, ht.x, ht.y, ht.gDefined, ht.xDefined, ht.yDefined, ht.xneg,
    ht.yneg, ht.early, rfl, rfl, fun h1 => ?_, fun h1 => ?_, rfl⟩
  · have hfits := (reduceCoefficient_lt x hn).trans (val_lt_of_shaped hs .n)
    simp only [resultOf, hres, inverseResults, h1, if_true]
    refine ⟨?_, wordsDefined_wordsOf .., rfl⟩
    rw [← natCast_reduceCoefficient x hn]
    exact congrArg Nat.cast (wordsValue_resultWords hfits s.r)
  · simp [resultOf, hres, inverseResults, h1]

/-- A coefficient of the Bézout law with gcd 1, reduced modulo `n`, is the inverse. -/
theorem mul_mod_eq_of_bezout {a n r : Nat} {x y : Int} (hr : (r : Int) = x % n) (h : a * x + n * y = 1) :
    a * r % n = 1 % n := by
  have hx : (a * x) % (n : Int) = 1 % n := by
    rw [← h, Int.add_mul_emod_self_left]
  have : ((a * r % n : Nat) : Int) = (1 % n : Nat) := by
    push_cast
    rw [hr, Int.mul_emod, Int.emod_emod, ← Int.mul_emod, hx]
  exact mod_cast this

/-- Settles O24: ERRCODE says whether G, the gcd, is 1, and with G = 1 the Bézout law makes `x mod N` the inverse;
an inverse would make A and N coprime. -/
theorem modinvLaws : Obligations.ModinvLaws := by
  intro s hs hp hd hn
  have hbez := egcd_bezout (s.val .a) false (s.val .n) false
  have hgcd := egcd_gcd (s.val .a) false (s.val .n) false
  rcases he : egcd (s.val .a) false (s.val .n) false with ⟨g, x, y⟩
  simp only [he, signedOperand] at hbez hgcd
  obtain ⟨t, ht, hg, -, -, -, -, -, -, -, -, -, -, hone, hmany, -⟩ := modinvWritesTheInverse s g x y hs hp hd hn he
  by_cases h1 : g = 1
  · obtain ⟨hr, -, herr⟩ := hone h1
    have hlaw : s.val .a * t.val .r % s.val .n = 1 % s.val .n := mul_mod_eq_of_bezout hr (by simpa [h1] using hbez)
    have hlt : t.val .r < s.val .n := by
      have := Int.emod_lt_of_pos x (by omega : (0 : Int) < s.val .n)
      omega
    exact ⟨t, ht, .inl herr, fun _ => ⟨hlaw, hlt⟩, by simp [herr], by simpa [herr] using ⟨_, hlaw⟩⟩
  · obtain ⟨-, herr⟩ := hmany h1
    have hpos : 0 < g := hgcd ▸ Nat.gcd_pos_of_pos_right _ (Nat.pos_of_ne_zero hn)
    have hnone : ¬ ∃ v, s.val .a * v % s.val .n = 1 % s.val .n := fun ⟨v, hv⟩ =>
      h1 (hgcd.trans (Nat.coprime_of_mul_modEq_one v hv))
    exact ⟨t, ht, .inr herr, by simp [herr], fun _ => ⟨hg.trans hgcd, by omega⟩, by simpa [herr] using hnone⟩

end Sys2Proof.Machine

/-! ### Exceptions (60_exceptions.md): the error codes at issue and completion, and the one stop -/

namespace Sys2Proof.Machine

/-! #### ILLEGAL_COMMAND (R172) -/

theorem issueIllegal_of_idle {s : State} (hp : s.pend = none) (c : Word) :
    s.issueIllegal c = { s with cmdreg := c, done := true, errcode := .illegalCommand } :=
  endCommand_acceptCommand_of_idle hp c .illegalCommand

/-- Settles O9: the write reaches CMD, and there an illegal word on an idle block ends at once. -/
theorem illegalWordEndsAtOnce : Obligations.IllegalWordEndsAtOnce := by
  intro s c rest h hp hd
  have hp' : State.pend { s with schedule := rest, resp := some .okay } = none := hp
  calc step s
    _ = State.writeCommand { s with schedule := rest, resp := some .okay } c := step_hostWR h rfl
    _ = .next (State.issueIllegal { s with schedule := rest, resp := some .okay } c) := writeCommand_of_illegal hp' hd
    _ = _ := congrArg _ (issueIllegal_of_idle hp' c)

/-! #### INVALID_MODULUS and NO_MODULAR_INVERSE (R173, R174) -/

theorem modulusZero_of_not_usesModulus {s : State} {i : Instr} (hu : usesModulus i = false) :
    s.modulusZero i = false := by simp [State.modulusZero, hu]

/-- The issue of a command without a modulus that goes on leaves no error, on UNDEF operands either (R104, R173). -/
theorem issue_noError {s t : State} {i : Instr} (hu : usesModulus i = false) (h : s.issue i = .next t) :
    t.errcode = .noError := by
  obtain ⟨-, -, rfl⟩ | ⟨-, hz, -⟩ | ⟨-, -, rfl⟩ := issue_next h
  · rfl
  · simp [modulusZero_of_not_usesModulus hu] at hz
  · simp [State.undefRefused, hu]

/-- The completion of a command without a modulus whose results carry no error leaves none. -/
theorem completeWith_noError {s t : State} {i : Instr} {result : Operands → Results} {free : Params → Nat → Results}
    (hu : usesModulus i = false) (hr : ∀ o, (result o).err = .noError) (hf : ∀ p c, (free p c).err = .noError)
    (h : s.completeWith i result free = .next t) : t.errcode = .noError := by
  obtain ⟨-, hz, -⟩ | ⟨-, -, -, h'⟩ | ⟨-, -, -, h'⟩ | ⟨-, h'⟩ := completeWith_cases s i result free
  · simp [modulusZero_of_not_usesModulus hu] at hz
  all_goals rw [h'] at h; cases h
  · exact hr _
  · exact hf _ _

/-- EXTGCD ends without error, at its issue and at its completion (R153). -/
theorem exec_extgcd_noError {s t : State} {na nb : Bool} (hp : s.pend = none ∨ s.pend = some (.extgcd na nb))
    (h : exec (.extgcd na nb) s = .next t) : t.errcode = .noError := by
  obtain hp | hp := hp
  · exact issue_noError rfl ((exec_of_idle _ hp).symm.trans h)
  · exact completeWith_noError rfl (fun _ => rfl) (fun _ _ => rfl) ((exec_of_pending hp).symm.trans h)

/-- Settles O8: the modulus check refuses the three commands that use N, and EXTGCD ends without error. -/
theorem zeroModulusIsRefusedAtIssue : Obligations.ZeroModulusIsRefusedAtIssue := by
  refine ⟨fun s i hi hp hd h0 => ?_, fun s t na nb hp h => ?_⟩
  · have hu : usesModulus i = true := by obtain rfl | rfl | rfl := hi <;> rfl
    exact ⟨_, (exec_of_idle i hp).trans (issue_of_zero_modulus hd hu h0), rfl, rfl, rfl, rfl, .refl s, .refl s⟩
  · simp [exec_extgcd_noError hp h]

/-- With a gcd other than 1 the results of MODINV are the triple and the error, and none for R (R160, R174). -/
theorem modinvResults_of_gcd_ne_one {o : Operands} (h : Nat.gcd o.a o.n ≠ 1) :
    modinvResults o = { bezoutResults (egcd o.a false o.n false) with r := none, err := .noModularInverse } := by
  have hg : (egcd o.a false o.n false).1 ≠ 1 := fun h1 => h ((egcd_gcd ..).symm.trans h1)
  simp only [modinvResults, inverseResults, if_neg hg]

/-- The coefficients in the registers, with their signs, are a Bézout pair of unsigned operands (R156). -/
theorem State.HoldsTriple.bezout {t : State} {ma mb : Nat} (h : t.HoldsTriple (egcd ma false mb false)) :
    (ma : Int) * signedOperand t.xneg.bit (t.val .x) + (mb : Int) * signedOperand t.yneg.bit (t.val .y) =
      (t.val .g : Int) := by
  rw [h.signedX, h.signedY, h.g]
  exact egcd_bezout ma false mb false

/-- Settles O25: with a gcd other than 1 the completion of MODINV keeps R and raises the error, and the triple it writes
has the Bézout law; EXTGCD ends without error. -/
theorem noModularInverseIsRaisedByModinvOnly : Obligations.NoModularInverseIsRaisedByModinvOnly := by
  refine ⟨fun s hs hp hd hn hgcd => ?_, fun s t na nb hp h => ?_⟩
  · have hex := exec_writesResults hs hp hd fun _ => hn
    rw [resultOf, modinvResults_of_gcd_ne_one (o := s.operands) hgcd] at hex
    have ht := holdsTriple_writeResults hs .n false false none .noModularInverse
    refine ⟨_, hex, rfl, rfl, rfl, rfl, ht.g.trans (egcd_gcd ..), ht.xDefined, ht.yDefined, ht.bezout, rfl, rfl, ht.early⟩
  · simp [exec_extgcd_noError hp h]

/-! #### What stops the machine in the aperture (R60, R104, R152, R178) -/

/-- On legal register lengths a completion goes on: the results fit (R152). -/
theorem completeWith_completes {s : State} (hs : s.Shaped = true) (i : Instr) :
    ∃ t, s.completeWith i (resultOf i) (freeOf i) = .next t := by
  obtain ⟨-, -, h⟩ | ⟨-, -, -, h⟩ | ⟨-, hz, hf, -⟩ | ⟨-, h⟩ := completeWith_cases s i (resultOf i) (freeOf i)
  · exact ⟨_, h⟩
  · exact ⟨_, h⟩
  · simp [resultOf_fits hs hz] at hf
  · exact ⟨_, h⟩

theorem engineStep_completes {s : State} (hs : s.Shaped = true) : ∃ t, s.engineStep = .next t := by
  cases hp : s.pend with
  | none => exact ⟨s, by rw [State.engineStep, hp]⟩
  | some i =>
    rw [engineStep_of_pending hp, exec_of_pending hp]
    exact completeWith_completes hs i

/-- On legal register lengths an action of the aperture goes on, but for the CMD write at which the model faults. -/
theorem act_completes_of_shaped {s : State} {a : Action} (hs : s.Shaped = true) (ho : a ≠ .outside)
    (hf : a.hits .cmd s.faultsAtIssue = false) : ∃ t, s.act a = .next t := by
  cases a with
  | write q d =>
    have hd : q = .cmd → State.faultsAtIssue { s with resp := some .okay } d = false := fun hq => by
      subst hq
      exact hf
    exact writeTarget_completes hd
  | complete => exact engineStep_completes hs
  | outside => exact absurd rfl ho
  | _ => exact ⟨_, rfl⟩

/-- The CMD write at which the model faults is that fault (R46, R104). -/
theorem act_faults {s : State} {a : Action} (hf : a.hits .cmd s.faultsAtIssue = true) :
    s.act a = .fault .undefOperand := by
  obtain ⟨d, rfl, hd⟩ := Action.eq_write_of_hits hf
  exact writeCommand_faults (s := { s with resp := some .okay }) hd

/-- Settles O50: the next event as the port decodes it is the faulting CMD write, or an action that goes on. -/
theorem nothingElseStops : Obligations.NothingElseStops := by
  intro s h hin
  obtain ⟨hs, -⟩ := (inv_iff s).mp h
  rw [State.faultsNext, isWriteTo_eq_hits, step_eq_act]
  exact ⟨act_faults (s := s.taken), act_completes_of_shaped (s := s.taken) hs (action_ne_outside hin)⟩

end Sys2Proof.Machine

/-! ### Reset (70_reset_and_hazards.md): the platform's hard reset, and the CTRL write with SRST -/

namespace Sys2Proof.Machine

theorem State.reg_hardReset (s : State) (q : Reg) : s.hardReset.reg q = (State.resetOf s.hw).reg q := by
  cases q <;> rfl

/-- Reset leaves every piece of the spec's state at the value of R49's table, whatever was in flight. -/
theorem atReset_hardReset (s : State) : s.hardReset.AtReset := by
  obtain ⟨⟨hie, hdone, herr, hovr, hwbusy, hcmdreg, hxneg, hyneg, hearly, hpend, hregs⟩, -⟩ := resetTable.1 s.hw
  refine ⟨hie, hdone, herr, hovr, hwbusy, hcmdreg, hxneg, hyneg, hearly, hpend, fun q => ?_⟩
  rw [State.reg_hardReset]
  exact hregs q

theorem step_hardReset {s : State} {rest : List Event} (h : s.schedule = .hardReset :: rest) :
    step s = .next { s with schedule := rest }.hardReset :=
  step_of_cons h

/-- A CTRL write with SRST resets, and its answer is OKAY (R26, R202). -/
theorem step_softReset {s : State} {d : Word} {rest : List Event} (h : s.schedule = hostWR s.hw 0x008 d :: rest)
    (hd : d.getLsbD 1 = true) : step s = .next { s with schedule := rest, resp := some .okay }.hardReset := by
  obtain ⟨-, h'⟩ | ⟨hd', -⟩ := writeCtrl_cases { s with schedule := rest, resp := some .okay } d
  · exact (step_hostWR h rfl).trans (congrArg _ h')
  · cases hd.symm.trans hd'

/-- Settles O47: `State.hardReset` after the event is taken off the schedule, and R49's table. -/
theorem hardResetStep : Obligations.HardResetStep := fun _ _ h =>
  ⟨_, step_hardReset h, atReset_hardReset _, rfl, rfl, rfl⟩

/-- Settles O48: both resets are `State.hardReset`, and differ in the port's answer only. -/
theorem softResetStep : Obligations.SoftResetStep := fun _ _ _ h hd =>
  ⟨_, _, step_softReset h hd, atReset_hardReset _, rfl, step_hardReset rfl, rfl⟩

end Sys2Proof.Machine

/-! ### UNDEF operands (10_state.md section 4): the hardware's reading of an issue and a completion, and the record -/

namespace Sys2Proof.Machine

/-! #### The issue that goes on (log 5, log 15) -/

theorem issue_of_undef_goesOn {s : State} {i : Instr} (hd : s.operandsDefined i = false)
    (ho : s.onUndef = .hardwareGoesOn) : s.issue i = .next ((s.acceptCommand (encode i)).issueUndef i) := by
  simp [State.issue, hd, ho]

theorem usesModulus_of_undefRefused {s : State} {i : Instr} (h : s.undefRefused i = true) : usesModulus i = true := by
  simp only [State.undefRefused, Bool.and_eq_true] at h
  exact h.1

/-- An issue that meets an UNDEF operand word leaves the command in flight, or ended with INVALID_MODULUS if it uses N. -/
theorem issueUndef_ends (s : State) (i : Instr) :
    ((s.issueUndef i).pend = some i ∧ (s.issueUndef i).done = false ∧ (s.issueUndef i).errcode = .noError) ∨
      (usesModulus i = true ∧ (s.issueUndef i).pend = none ∧ (s.issueUndef i).done = true ∧
        (s.issueUndef i).errcode = .invalidModulus) := by
  cases hr : s.undefRefused i
  · exact .inl (by simp [hr])
  · exact .inr ⟨usesModulus_of_undefRefused hr, by simp [hr]⟩

/-- A wholly defined modulus that is 0 is refused for certain (R173, log 15). -/
theorem issueUndef_invalidModulus {s : State} {i : Instr} (hu : usesModulus i = true) (hn : s.regDefined .n = true)
    (h0 : s.val .n = 0) : (s.issueUndef i).errcode = .invalidModulus := by
  simp [State.undefRefused, hu, hn, h0]

/-- Settles O11: the issue is `State.issueUndef` of the accepted command, whose two ends are those stated. -/
theorem undefOperandIssueGoesOn : Obligations.UndefOperandIssueGoesOn := by
  intro s i hp hd ho
  exact ⟨_, (exec_of_idle i hp).trans (issue_of_undef_goesOn hd ho), rfl, rfl, issueUndef_ends _ i,
    issueUndef_invalidModulus (s := s.acceptCommand (encode i)), rfl⟩

/-! #### The completion that goes on (log 16) -/

theorem exec_of_pending_undef {s : State} {i : Instr} (hp : s.pend = some i) (hd : s.operandsDefined i = false) :
    exec i s = .next (s.finishUndef (freeOf i s.hw s.draws)) := by
  rw [exec_of_pending hp]
  simp [State.completeWith, hd]

/-- G, x and y of a free triple are W-bit magnitudes (R46). -/
theorem bezoutResults_freeTriple_fits (p : Params) (c : Nat) : (bezoutResults (freeTriple p c)).fits p = true :=
  freeOf_fits (.extgcd false false) p c

/-- A completion on UNDEF operands that writes a free triple, whatever it does to R and ERRCODE, leaves it in the
registers. -/
theorem holdsTriple_finishUndef (s : State) (r : Option Nat) (err : ErrorCode) :
    (s.finishUndef { bezoutResults (freeTriple s.hw s.draws) with r := r, err := err }).HoldsTriple
      (freeTriple s.hw s.draws) := by
  obtain ⟨-, hg, hx, hy⟩ := (Results.fits_iff ..).mp (bezoutResults_freeTriple_fits s.hw s.draws)
  exact {
    g := wordsValue_resultWords ((fitsWidth_some ..).mp hg) s.g
    x := wordsValue_resultWords ((fitsWidth_some ..).mp hx) s.x
    y := wordsValue_resultWords ((fitsWidth_some ..).mp hy) s.y
    gDefined := wordsDefined_wordsOf ..
    xDefined := wordsDefined_wordsOf ..
    yDefined := wordsDefined_wordsOf ..
    xneg := rfl
    yneg := rfl
    early := rfl }

/-- The sign of a zero coefficient is 0 (R36). -/
theorem State.HoldsTriple.xneg_of_zero {t : State} {gxy : Nat × Int × Int} (h : t.HoldsTriple gxy)
    (hx : t.val .x = 0) : t.xneg.bit = false := by
  rw [h.xneg]
  exact signFlag_of_natAbs_eq_zero (h.x ▸ hx)

/-- The sign of a zero coefficient is 0 (R37). -/
theorem State.HoldsTriple.yneg_of_zero {t : State} {gxy : Nat × Int × Int} (h : t.HoldsTriple gxy)
    (hy : t.val .y = 0) : t.yneg.bit = false := by
  rw [h.yneg]
  exact signFlag_of_natAbs_eq_zero (h.y ▸ hy)

theorem modinvFree_of_one {p : Params} {c : Nat} (h : (freeTriple p c).1 = 1) :
    modinvFree p c =
      { bezoutResults (freeTriple p c) with r := some (drawValue p.nw (c + 3 * p.nw)), err := .noError } := by
  simp only [modinvFree, inverseResults, if_pos h]

theorem modinvFree_of_ne_one {p : Params} {c : Nat} (h : (freeTriple p c).1 ≠ 1) :
    modinvFree p c = { bezoutResults (freeTriple p c) with r := none, err := .noModularInverse } := by
  simp only [modinvFree, inverseResults, if_neg h]

/-- The free G decides MODINV's error and its write of R (R160). -/
theorem finishUndef_modinv_cases {s t : State} (h : t = s.finishUndef (modinvFree s.hw s.draws)) :
    (t.val .g = 1 ∧ t.errcode = .noError ∧ t.regDefined .r = true) ∨
      (t.val .g ≠ 1 ∧ t.errcode = .noModularInverse ∧ t.r = s.r) := by
  by_cases h1 : (freeTriple s.hw s.draws).1 = 1
  · rw [h, modinvFree_of_one h1]
    exact .inl ⟨(holdsTriple_finishUndef ..).g.trans h1, rfl, wordsDefined_wordsOf ..⟩
  · rw [h, modinvFree_of_ne_one h1]
    exact .inr ⟨(holdsTriple_finishUndef ..).g.trans_ne h1, rfl, rfl⟩

/-- Settles O26: the completion writes the free results of the command: R and EARLY, or a free triple, and for MODINV
what follows from G. -/
theorem undefOperandCompletionGoesOn : Obligations.UndefOperandCompletionGoesOn := by
  intro s i hp hd
  refine ⟨_, exec_of_pending_undef hp hd, rfl, rfl, ?_⟩
  cases i with
  | modmul =>
    exact ⟨rfl, fun _ => rfl, .inl rfl, nofun, fun _ => ⟨wordsDefined_wordsOf .., rfl⟩, fun h => absurd rfl h⟩
  | modexp =>
    exact ⟨rfl, fun h => absurd rfl h, .inl rfl, nofun, fun _ => ⟨wordsDefined_wordsOf .., rfl⟩,
      fun _ h => absurd rfl h⟩
  | extgcd na nb =>
    have ht := holdsTriple_finishUndef s none .noError
    exact ⟨rfl, fun _ => rfl, .inl rfl, nofun, nofun, fun _ _ =>
      ⟨ht.gDefined, ht.xDefined, ht.yDefined, rfl, rfl, ht.xneg_of_zero, ht.yneg_of_zero, fun _ => rfl, rfl⟩⟩
  | modinv =>
    have ht : (s.finishUndef (modinvFree s.hw s.draws)).HoldsTriple _ := holdsTriple_finishUndef s _ _
    refine ⟨rfl, fun _ => rfl, ?_, fun _ => ?_, nofun, fun _ _ =>
      ⟨ht.gDefined, ht.xDefined, ht.yDefined, rfl, rfl, ht.xneg_of_zero, ht.yneg_of_zero, fun h => absurd rfl h, rfl⟩⟩
    · obtain ⟨-, he, -⟩ | ⟨-, he, -⟩ := finishUndef_modinv_cases (s := s) rfl
      · exact .inl he
      · exact .inr ⟨rfl, he⟩
    · obtain ⟨hg, he, hr⟩ | ⟨hg, he, hr⟩ := finishUndef_modinv_cases (s := s) rfl
      · exact ⟨iff_of_true hg he, fun _ => hr, fun h => absurd hg h⟩
      · exact ⟨iff_of_false hg (he.trans_ne nofun), fun h => absurd h hg, fun _ => hr⟩

/-! #### The record of an issue on an UNDEF operand word (log 5) -/

theorem operandUndef_of_legal {c : Word} {i : Instr} (h : decode c = some i) (s : State) :
    s.operandUndef c = !s.operandsDefined i := by
  simp [State.operandUndef, h]

theorem operandUndef_of_illegal {c : Word} (h : decode c = none) (s : State) : s.operandUndef c = false := by
  simp [State.operandUndef, h]

theorem completeWith_undefOperand {s t : State} {i : Instr} {result : Operands → Results}
    {free : Params → Nat → Results} (h : s.completeWith i result free = .next t) :
    t.undefOperand = s.undefOperand := by
  obtain rfl | ⟨res, k, rfl⟩ := completeWith_next h <;> rfl

/-- An issue that goes on sets the record when an operand word is UNDEF, and else keeps it. -/
theorem issue_undefOperand {s t : State} {i : Instr} (h : s.issue i = .next t) :
    t.undefOperand = (s.undefOperand || !s.operandsDefined i) := by
  obtain ⟨hd, -, rfl⟩ | ⟨hd, -, rfl⟩ | ⟨hd, -, rfl⟩ := issue_next h <;> simp [hd]

/-- The record after each effect. -/
theorem Effect.undefOperand_iff {s t : State} {a : Action} (he : Effect s a t) :
    t.undefOperand = true ↔
      s.undefOperand = true ∨ (s.busy = false ∧ a.hits .cmd s.operandUndef = true) := by
  cases he with
  | completes _ hc => simp [Action.hits, completeWith_undefOperand hc]
  | issues hp hd hi =>
    have hu : t.undefOperand = (s.undefOperand || s.operandUndef _) :=
      (issue_undefOperand hi).trans (by rw [operandUndef_of_legal hd]; rfl)
    simp [Action.hits, hu, busy_eq_false_iff.mpr hp]
  | refusesWord _ hd => simp [Action.hits, operandUndef_of_illegal hd]
  | drops _ hb => simp [State.busy, hb]
  | ignores _ hi => simp [hits_of_inert hi (q' := .cmd) rfl]
  | _ => simp [Action.hits]

/-- Settles O60: the record after each effect, from a state without it. -/
theorem undefOperandIsRecordedAtIssueOnly : Obligations.UndefOperandIsRecordedAtIssueOnly := by
  intro s t h hl
  have he : t.undefOperand = true ↔ s.undefOperand = true ∨
      (s.busy = false ∧ (action s.hw s.nextEvent).hits .cmd s.operandUndef = true) :=
    (step_effect h).undefOperand_iff
  have h0 : s.undefOperand = false := by simpa [State.Loaded] using hl
  simp [State.Loaded, he, h0]

end Sys2Proof.Machine

/-! ### The decoding table (95_test_vectors.md 2.5), and transactions outside the aperture (20_memory.md R60) -/

namespace Sys2Proof.Machine

/-- Settles O3: the legal words are the commands' own; the others are evaluated. -/
theorem tableWordsDecode : Obligations.TableWordsDecode :=
  ⟨by decide, decode_encode .modmul, by decide, decode_encode .modexp, by decide,
    decode_encode (.extgcd false false), decode_encode (.extgcd true false), decode_encode (.extgcd false true),
    decode_encode (.extgcd true true), by decide, decode_encode .modinv, by decide, by decide, by decide, by decide⟩

/-- A transaction outside the aperture is outside it for the port. -/
theorem action_eq_outside {p : Params} {ev : Event} (h : eventInAperture p ev = false) : action p ev = .outside := by
  cases ev with
  | read addr size | write addr size d =>
    have hp : inAperture p addr = false := h
    simp [action, access, hp]
  | complete | hardReset => cases h

/-- Settles O49: the port decodes such a transaction as one outside the aperture, which is the fault. -/
theorem outsideApertureFaults : Obligations.OutsideApertureFaults := by
  intro s h
  rw [step_eq_act, action_eq_outside h, State.act]

end Sys2Proof.Machine
